-- ==== Sys2Proof/Word.lean ====
section
/-! DEFINITION. The words that enter and leave the block, and the names of its value types. -/

namespace Sys2Proof

/-- A command word: one operation, 40 bits (R90, R91). -/
abbrev CommandWord := BitVec 40

/-- The result word of a host operation, 32 bits (R96). -/
abbrev ResultWord := BitVec 32

/-- One operand field A or B of a command word, 16 bits (R90). -/
abbrev Operand := BitVec 16

/-- A RemoteMessage, 14 bits (R221). -/
abbrev Message := BitVec 14

/-- A line level: false is low (0), true is high (1) (R56). -/
abbrev Level := Bool

end Sys2Proof
end

