-- ==== Sys2Proof/Config.lean ====
section
/-! DEFINITION. The configuration record of R10, the reference configuration of R13, and the model's free values. -/

namespace Sys2Proof

/-- The configuration record (R10). Every protocol number is a named parameter, in µs. -/
structure Config where
  /-- COUNTER_BITS (W): width of the free-running counter and of every Tick. -/
  counterBits : Nat
  /-- F_CPU_HZ: CPU clock in Hz. -/
  fCpuHz : Nat
  /-- PRESCALER: integer divisor from CPU clock to counter rate. -/
  prescaler : Nat
  /-- REQUEST_US: length of the host's low request pulse. -/
  requestUs : Nat
  /-- SENSOR_WATCHDOG_US: response watchdog, armed at AwaitAck entry. -/
  sensorWatchdogUs : Nat
  /-- RESP_MIN_US: least sensor response delay. -/
  respMinUs : Nat
  /-- RESP_MAX_US: greatest sensor response delay. -/
  respMaxUs : Nat
  /-- ACK_US: ack low. -/
  ackUs : Nat
  /-- DSTART_US: ack-confirm / data-start high. -/
  dstartUs : Nat
  /-- BITLOW_US: bit-start low. -/
  bitlowUs : Nat
  /-- BIT0_US: bit-high for "0". -/
  bit0Us : Nat
  /-- BIT1_US: bit-high for "1". -/
  bit1Us : Nat
  /-- SENSOR_TOL_US: the sensor's single fixed tolerance. -/
  sensorTolUs : Nat
  /-- HALF_BIT_US: remote short-pulse nominal. -/
  halfBitUs : Nat
  /-- FULL_BIT_US: remote long-pulse nominal. -/
  fullBitUs : Nat
  /-- REMOTE_TOL_US: remote tolerance. -/
  remoteTolUs : Nat
  /-- EXT_FIELD_INVERTED: extendedCommand uses the inverted field bit. -/
  extFieldInverted : Bool
  /-- SHARED_CAPTURE: the two decoders share one capture channel. -/
  sharedCapture : Bool
  /-- IRQ_LATENCY_FREE: environment events may come between an interrupt's pending and its dispatch. -/
  irqLatencyFree : Bool
deriving DecidableEq, Repr

namespace Config

/-- MODULUS (M) = 2^W (R10). -/
def modulus (c : Config) : Nat := 2 ^ c.counterBits

/-- SENSOR_FRAME_BITS, fixed at 40 (R11, log 11). -/
def sensorFrameBits : Nat := 40

/-- FRAME_BITS, fixed at 14 (R11, log 11). -/
def frameBits : Nat := 14

/-- NUM_COMPARE_CHANNELS, fixed at 2 (R10, I3, log 11): the channels S and R of `Machine.Channel`. -/
def numCompareChannels : Nat := 2

/-- The reference configuration (R13): the values of R10 with F_CPU_HZ = 8 000 000 and PRESCALER = 8. -/
def reference : Config where
  counterBits := 16
  fCpuHz := 8000000
  prescaler := 8
  requestUs := 1000
  sensorWatchdogUs := 10000
  respMinUs := 20
  respMaxUs := 40
  ackUs := 80
  dstartUs := 80
  bitlowUs := 50
  bit0Us := 27
  bit1Us := 70
  sensorTolUs := 20
  halfBitUs := 889
  fullBitUs := 1778
  remoteTolUs := 444
  extFieldInverted := true
  sharedCapture := true
  irqLatencyFree := false

/-- FREE VALUE (log 8): the result word of `TB.ELAPSED later, earlier` under a configuration in which the exact
Duration does not fit 32 bits. The spec states no result there (R96, R146). -/
opaque wideElapsed : Config → Operand → Operand → ResultWord

/-- FREE VALUE (log 8): the result word of `TB.T2US ticks` under a configuration in which the exact number of µs
does not fit 32 bits. The spec states no result there (R96, R147). -/
opaque wideT2us : Config → Operand → ResultWord

end Config

end Sys2Proof
end

