-- ==== Sys2Proof/Machine/Names.lean ====
section
/-! DEFINITION. The block's enumerations, written by name (R16), and the numeric codes of those that leave it
(R41, R50, R56, R251). -/

namespace Sys2Proof.Machine

/-- A capture polarity (R16, R34). -/
inductive Polarity where
  | falling
  | rising
deriving DecidableEq, Repr

/-- SensorDecoderState (R40). -/
inductive SState where
  | idle
  | requesting
  | awaitAck
  | ackPhase
  | awaitBitStart
  | awaitBit
  | bitPhase
  | ready
deriving DecidableEq, Repr

/-- The remote sub-state (R50). Codes 5 to 7 are never written and have no constructor (I11, log 12). -/
inductive RSub where
  | startZero
  | midZero
  | startOne
  | midOne
  | error
deriving DecidableEq, Repr

/-- PulseClass (R20, R201). -/
inductive PulseClass where
  | short
  | long
  | invalid
deriving DecidableEq, Repr

/-- The two decoders, as owners of a capture unit or of a compare channel (R35, R36, R37). -/
inductive Channel where
  | S
  | R
deriving DecidableEq, Repr

/-- The four interrupt sources (R259). -/
inductive Source where
  | sCap
  | rCap
  | sOc
  | rOc
deriving DecidableEq, Repr

/-- The causes of a sensor abort (R168, R250). -/
inductive Cause where
  | timeout
  | pulseOutOfTolerance
  | checksumMismatch
deriving DecidableEq, Repr

/-- NOT on a polarity: the other edge (R162, R216). -/
def Polarity.flip : Polarity → Polarity
  | .falling => .rising
  | .rising => .falling

/-- Polarity codes: Falling = 0, Rising = 1 (R56). -/
def Polarity.code : Polarity → Nat
  | .falling => 0
  | .rising => 1

/-- The edge of a change to level `new` (R142, R143). -/
def edgeTo (new : Level) : Polarity := if new then .rising else .falling

/-- S_STATE codes, in the source's order (R41). -/
def SState.code : SState → BitVec 3
  | .idle => 0
  | .requesting => 1
  | .awaitAck => 2
  | .ackPhase => 3
  | .awaitBitStart => 4
  | .awaitBit => 5
  | .bitPhase => 6
  | .ready => 7

/-- R_SUB codes (R50). -/
def RSub.code : RSub → BitVec 3
  | .startZero => 0
  | .midZero => 1
  | .startOne => 2
  | .midOne => 3
  | .error => 4

/-- The sensor is Busy in six of its eight states (R55). -/
def SState.busy : SState → Bool
  | .requesting | .awaitAck | .ackPhase | .awaitBitStart | .awaitBit | .bitPhase => true
  | .idle | .ready => false

/-- The five states in which the sensor's capture is on (R160, R166). -/
def SState.capturing : SState → Bool
  | .awaitAck | .ackPhase | .awaitBitStart | .awaitBit | .bitPhase => true
  | .idle | .requesting | .ready => false

/-- pollState's result codes: Idle = 0, Busy = 1, Ready = 2 (R56, R173). -/
def SState.pollCode : SState → ResultWord
  | .idle => 0
  | .ready => 2
  | .requesting | .awaitAck | .ackPhase | .awaitBitStart | .awaitBit | .bitPhase => 1

/-- The frame-start polarity: the edge from the idle to the active level (R52, R205). -/
def frameStartPolarity (inv : Bool) : Polarity := if inv then .rising else .falling

/-- The active (pulse) level of the receiver line (R52). -/
def activeLevel (inv : Bool) : Level := inv

/-- The line level that a sub-state implies after its edge: true for the active level (R216's table).
Error implies none; it is given the idle level here and no rule reads that. -/
def RSub.lineActive : RSub → Bool
  | .midOne | .startZero => true
  | .startOne | .midZero => false
  | .error => false

end Sys2Proof.Machine
end

