-- ==== Sys2Proof/Machine/Operands.lean ====
section
/-! DEFINITION. The pure functions of the block: tick arithmetic, window tests, pulse classes, the transition table,
the sensor's payload, the remote's fields and the result words (R16, R93, R96, R121 to R126, R161, R201, R202, R176,
R177, R221 to R225). Nothing here reads or writes State. -/

namespace Sys2Proof.Machine

/-! ## Tick arithmetic and conversion -/

/-- elapsed_ticks (R122): the subtraction is on integers, the remainder non-negative. -/
def elapsedTicks (c : Config) (later earlier : Nat) : Nat :=
  (((later : Int) - (earlier : Int) + (c.modulus : Int)) % (c.modulus : Int)).toNat

/-- ticks_to_us (R123): (t * PRESCALER * 1000000) div F_CPU_HZ, exact, rounding down. (The literal stands first so that
the kernel does not unfold it in unary.) -/
def ticksToUs (c : Config) (t : Nat) : Nat := 1000000 * (t * c.prescaler) / c.fCpuHz

/-- ceil_div (R14), for b ≥ 1. -/
def ceilDiv (a b : Nat) : Nat := (a + b - 1) / b

/-- us_to_ticks (R124): ceil_div(u * F_CPU_HZ, PRESCALER * 1000000), exact, rounding up. -/
def usToTicks (c : Config) (u : Nat) : Nat := ceilDiv (u * c.fCpuHz) (1000000 * c.prescaler)

/-- elapsed (R122): a Duration in µs. -/
def elapsed (c : Config) (later earlier : Nat) : Nat := ticksToUs c (elapsedTicks c later earlier)

/-- CNT + t, modulo MODULUS (R131, R140). -/
def addTicks (c : Config) (a t : Nat) : Nat := (a + t) % c.modulus

/-! ## Window tests, in µs (R126) -/

/-- within (R16): both bounds included, the lower one clamped at 0 by natural subtraction. -/
def within (d nom tol : Nat) : Bool := decide (nom - tol ≤ d) && decide (d ≤ nom + tol)

/-- win_resp (R161). -/
def winResp (c : Config) (d : Nat) : Bool :=
  decide (c.respMinUs - c.sensorTolUs ≤ d) && decide (d ≤ c.respMaxUs + c.sensorTolUs)

/-- win_ack (R161). -/
def winAck (c : Config) (d : Nat) : Bool := within d c.ackUs c.sensorTolUs

/-- win_dstart (R161). -/
def winDstart (c : Config) (d : Nat) : Bool := within d c.dstartUs c.sensorTolUs

/-- win_low (R161). -/
def winLow (c : Config) (d : Nat) : Bool := within d c.bitlowUs c.sensorTolUs

/-- win_bit0 (R161). -/
def winBit0 (c : Config) (d : Nat) : Bool := within d c.bit0Us c.sensorTolUs

/-- win_bit1 (R161). -/
def winBit1 (c : Config) (d : Nat) : Bool := within d c.bit1Us c.sensorTolUs

/-- The bit that a high pulse of `d` µs stands for, none outside both windows (R172). -/
def bitOfHigh (c : Config) (d : Nat) : Option Bool :=
  if winBit0 c d then some false else if winBit1 c d then some true else none

/-! ## The remote's pulse classes and transition table -/

/-- classify (R201). -/
def classify (c : Config) (d : Nat) : PulseClass :=
  if within d c.halfBitUs c.remoteTolUs then .short
  else if within d c.fullBitUs c.remoteTolUs then .long
  else .invalid

/-- The transition table next(sub, class) (R202). -/
def nextSub : RSub → PulseClass → RSub
  | .startOne, .short => .midOne
  | .startOne, .long => .error
  | .startOne, .invalid => .error
  | .midOne, .short => .startOne
  | .midOne, .long => .midZero
  | .midOne, .invalid => .error
  | .startZero, .short => .midZero
  | .startZero, .long => .error
  | .startZero, .invalid => .error
  | .midZero, .short => .startZero
  | .midZero, .long => .midOne
  | .midZero, .invalid => .error
  | .error, .short => .error
  | .error, .long => .error
  | .error, .invalid => .error

/-- guard_us (R204), for a count of bits received. -/
def guardUs (c : Config) (cnt : Nat) : Nat := (Config.frameBits - cnt) * (c.fullBitUs + c.remoteTolUs)

/-! ## Accumulators -/

/-- trunc_40((acc << 1) OR b) (R172). -/
def shiftIn40 (acc : BitVec 40) (b : Bool) : BitVec 40 := (acc <<< 1) ||| (BitVec.ofBool b).setWidth 40

/-- trunc_14((acc << 1) OR b) (R203). -/
def shiftIn14 (acc : BitVec 14) (b : Bool) : BitVec 14 := (acc <<< 1) ||| (BitVec.ofBool b).setWidth 14

/-! ## The sensor's payload -/

/-- S_ACC[39:24], humidity (R73). -/
def humField (acc : BitVec 40) : BitVec 16 := acc.extractLsb' 24 16

/-- S_ACC[23:8], the temperature word (R73). -/
def tempField (acc : BitVec 40) : BitVec 16 := acc.extractLsb' 8 16

/-- S_ACC[7:0], the checksum (R73). -/
def checkField (acc : BitVec 40) : BitVec 8 := acc.extractLsb' 0 8

/-- hi[15:8] + hi[7:0] of a 16-bit field, in unbounded integers. -/
def byteSum (v : BitVec 16) : Nat := (v.extractLsb' 8 8).toNat + (v.extractLsb' 0 8).toNat

/-- The checksum is valid (R176): the four bytes are added in unbounded integers, the sum then reduced modulo 256. -/
def checksumOk (acc : BitVec 40) : Bool :=
  decide ((checkField acc).toNat = (byteSum (humField acc) + byteSum (tempField acc)) % 256)

/-- decode_temp (R177): sign and magnitude, in tenths of a degree Celsius. -/
def decodeTemp (traw : BitVec 16) : Int :=
  if traw.getLsbD 15 then -((traw.extractLsb' 0 15).toNat : Int) else ((traw.extractLsb' 0 15).toNat : Int)

/-! ## The remote message's fields (R221) -/

/-- m[11], the toggle bit (R222). -/
def msgToggle (m : Message) : BitVec 1 := m.extractLsb' 11 1

/-- m[10:6], the address (R223). -/
def msgAddress (m : Message) : BitVec 5 := m.extractLsb' 6 5

/-- m[5:0], the command (R224). -/
def msgCommand (m : Message) : BitVec 6 := m.extractLsb' 0 6

/-- {f, m[5:0]} with f = NOT m[12] or m[12] (R225). -/
def msgExtCommand (c : Config) (m : Message) : BitVec 7 :=
  BitVec.ofBool (if c.extFieldInverted then !m.getLsbD 12 else m.getLsbD 12) ++ msgCommand m

/-! ## Result words (R96) -/

/-- zext_32 of a natural number below 2^32. -/
def resultOfNat (n : Nat) : ResultWord := BitVec.ofNat 32 n

/-- `TB.ELAPSED`'s result (R146); a free value where the exact Duration does not fit the word (log 8). -/
def elapsedResult (c : Config) (later earlier : Operand) : ResultWord :=
  if elapsed c later.toNat earlier.toNat < 2 ^ 32 then resultOfNat (elapsed c later.toNat earlier.toNat)
  else Config.wideElapsed c later earlier

/-- `TB.T2US`'s result (R147); a free value where the exact number of µs does not fit the word (log 8). -/
def t2usResult (c : Config) (ticks : Operand) : ResultWord :=
  if ticksToUs c ticks.toNat < 2 ^ 32 then resultOfNat (ticksToUs c ticks.toNat)
  else Config.wideT2us c ticks

/-- `TB.US2T`'s result (R148): saturates at 2^32 - 1. -/
def us2tResult (c : Config) (us : BitVec 32) : ResultWord :=
  resultOfNat (min (usToTicks c us.toNat) (2 ^ 32 - 1))

/-- zext_32(trunc_16(t)), two's complement in bits 15:0 (R174). -/
def tempResult (t : Int) : ResultWord := (BitVec.ofInt 16 t).setWidth 32

/-! ## Conditions on a configuration and on operands -/

/-- A tick operand is below MODULUS (R93, R110 (c)). -/
def tickInRange (c : Config) (t : Operand) : Bool := decide (t.toNat < c.modulus)

/-- WF1 (R12). -/
def wf1 (c : Config) : Bool := decide (1 ≤ c.counterBits) && decide (c.counterBits ≤ 16)

/-- WF2 (R12). -/
def wf2 (c : Config) : Bool := decide (1 ≤ c.fCpuHz) && decide (1 ≤ c.prescaler)

/-- us_to_ticks(u) can be armed: 1 <= us_to_ticks(u) <= MODULUS - 1 (R12 WF3, R131). -/
def schedulable (c : Config) (u : Nat) : Bool :=
  decide (1 ≤ usToTicks c u) && decide (usToTicks c u ≤ c.modulus - 1)

/-- The delays of WF3 (R12): the request, the watchdog, and the guards for k = 1 .. FRAME_BITS - 1 bits left. -/
def armedDelays (c : Config) : List Nat :=
  c.requestUs :: c.sensorWatchdogUs ::
    (List.range (Config.frameBits - 1)).map fun k => (k + 1) * (c.fullBitUs + c.remoteTolUs)

/-- WF3 (R12). -/
def wf3 (c : Config) : Bool := (armedDelays c).all (schedulable c)

/-- WF4 (R12): the sensor's bit windows are disjoint; the difference is the integer one, hence the sum on the left. -/
def wf4 (c : Config) : Bool := decide (c.bit0Us + c.sensorTolUs + c.sensorTolUs < c.bit1Us)

/-- WF5 (R12): the remote's windows are disjoint. -/
def wf5 (c : Config) : Bool := decide (c.halfBitUs + c.remoteTolUs + c.remoteTolUs < c.fullBitUs)

/-- WF6 (R12): the µs parameters are natural numbers by their type. -/
def wf6 (c : Config) : Bool := decide (c.respMinUs ≤ c.respMaxUs)

end Sys2Proof.Machine
end

