-- ==== Sys2Proof/Syntax.lean ====
section
/-! DEFINITION. The operations of the block: one constructor per row of spec/opcode_table.json (R95). -/

namespace Sys2Proof

/-- The block's operations. Operands have exactly the bits R93 gives them; reserved operand bits have no place here. -/
inductive Instr where
  /-- `TB.RDCLK`: read the counter (R145). -/
  | tbRdclk
  /-- `TB.ELAPSED later, earlier`: Duration between two Ticks (R146). -/
  | tbElapsed (later earlier : Operand)
  /-- `TB.T2US ticks`: ticks to µs (R147). -/
  | tbT2us (ticks : Operand)
  /-- `TB.US2T us`: µs to ticks, us = {A, B} (R148). -/
  | tbUs2t (us : BitVec 32)
  /-- `S.START`: start an acquisition (R163). -/
  | sStart
  /-- `S.POLL`: poll the sensor state (R173). -/
  | sPoll
  /-- `S.RDTEMP`: consuming read of the temperature (R174). -/
  | sRdtemp
  /-- `S.RDHUM`: consuming read of the humidity (R175). -/
  | sRdhum
  /-- `R.INIT polarity`: false normal (0), true inverted (1) (R210). -/
  | rInit (polarity : Bool)
  /-- `R.ENABLE` (R211). -/
  | rEnable
  /-- `R.DISABLE` (R212). -/
  | rDisable
  /-- `R.TOGGLE msg` (R222). -/
  | rToggle (msg : Message)
  /-- `R.ADDR msg` (R223). -/
  | rAddr (msg : Message)
  /-- `R.CMD msg` (R224). -/
  | rCmd (msg : Message)
  /-- `R.EXTCMD msg` (R225). -/
  | rExtcmd (msg : Message)
  /-- `EV.TICK`: the counter advances (R140). -/
  | evTick
  /-- `EV.SLINE level`: the sensor device presents a level (R141). -/
  | evSline (level : Level)
  /-- `EV.RLINE level`: the IR receiver's output goes to a level (R143). -/
  | evRline (level : Level)
  /-- `EV.RESET`: power-on or external reset (R290). -/
  | evReset
deriving DecidableEq, Repr

/-- The operation is one of the host's (opcodes 0x0_ to 0x2_), not one of the environment's (0x8_) (R92). -/
def Instr.isHostOperation : Instr → Bool
  | .tbRdclk | .tbElapsed _ _ | .tbT2us _ | .tbUs2t _ => true
  | .sStart | .sPoll | .sRdtemp | .sRdhum => true
  | .rInit _ | .rEnable | .rDisable => true
  | .rToggle _ | .rAddr _ | .rCmd _ | .rExtcmd _ => true
  | .evTick | .evSline _ | .evRline _ | .evReset => false

end Sys2Proof
end

