-- ==== Sys2Proof/WellFormed.lean ====
section
/-! DEFINITION. Well-formedness of a configuration (R12) and of an operation under a configuration (R93). -/

namespace Sys2Proof

/-- A configuration is well formed (R12): every check WF1 to WF6 holds. -/
def Config.wf (c : Config) : Bool :=
  Machine.wf1 c && Machine.wf2 c && Machine.wf3 c && Machine.wf4 c && Machine.wf5 c && Machine.wf6 c

/-- An operation is well formed under a configuration: both tick operands of `TB.ELAPSED` are below MODULUS (R93).
Every other condition of R93 (reserved bits, unused fields) is met by the operand types of `Instr`. -/
def Instr.wf (c : Config) : Instr → Bool
  | .tbElapsed later earlier => Machine.tickInRange c later && Machine.tickInRange c earlier
  | .tbRdclk | .tbT2us _ | .tbUs2t _ => true
  | .sStart | .sPoll | .sRdtemp | .sRdhum => true
  | .rInit _ | .rEnable | .rDisable => true
  | .rToggle _ | .rAddr _ | .rCmd _ | .rExtcmd _ => true
  | .evTick | .evSline _ | .evRline _ | .evReset => true

end Sys2Proof
end

