-- ==== Sys2Proof/Decode.lean ====
section
/-! DEFINITION. The opcode table (R95, spec/opcode_table.json), the decoder of command words (R110), total and rejecting
by name, and the encoder. -/

namespace Sys2Proof

/-- Why the block gives no meaning (R258). -/
inductive RefuseReason where
  /-- OPC is not in the opcode table (R110 (a)). -/
  | reservedOpcode
  /-- An operand bit that must be 0 is 1 (R110 (b)). -/
  | reservedField
  /-- A tick operand is at or above MODULUS (R110 (c)). -/
  | tickRange
  /-- A delay cannot be armed (R131); unreachable in a well-formed configuration. -/
  | delayRange
deriving DecidableEq, Repr

/-- The mnemonics of the opcode table, as data without operands. -/
inductive Opcode where
  | tbRdclk | tbElapsed | tbT2us | tbUs2t
  | sStart | sPoll | sRdtemp | sRdhum
  | rInit | rEnable | rDisable
  | rToggle | rAddr | rCmd | rExtcmd
  | evTick | evSline | evRline | evReset
deriving DecidableEq, Repr

/-- One row of the opcode table: its operation, match and mask. -/
structure OpcodeRow where
  op : Opcode
  pattern : CommandWord
  mask : CommandWord
deriving DecidableEq, Repr

/-- The opcode table (R95): match and mask as spec/opcode_table.json gives them. -/
def opcodeTable : List OpcodeRow :=
  [ ⟨.tbRdclk,   0x0100000000#40, 0xFFFFFFFFFF#40⟩,
    ⟨.tbElapsed, 0x0200000000#40, 0xFF00000000#40⟩,
    ⟨.tbT2us,    0x0300000000#40, 0xFF0000FFFF#40⟩,
    ⟨.tbUs2t,    0x0400000000#40, 0xFF00000000#40⟩,
    ⟨.sStart,    0x1000000000#40, 0xFFFFFFFFFF#40⟩,
    ⟨.sPoll,     0x1100000000#40, 0xFFFFFFFFFF#40⟩,
    ⟨.sRdtemp,   0x1200000000#40, 0xFFFFFFFFFF#40⟩,
    ⟨.sRdhum,    0x1300000000#40, 0xFFFFFFFFFF#40⟩ ] ++
  [ ⟨.rInit,     0x2000000000#40, 0xFFFFFEFFFF#40⟩,
    ⟨.rEnable,   0x2100000000#40, 0xFFFFFFFFFF#40⟩,
    ⟨.rDisable,  0x2200000000#40, 0xFFFFFFFFFF#40⟩,
    ⟨.rToggle,   0x2800000000#40, 0xFFC000FFFF#40⟩,
    ⟨.rAddr,     0x2900000000#40, 0xFFC000FFFF#40⟩,
    ⟨.rCmd,      0x2A00000000#40, 0xFFC000FFFF#40⟩,
    ⟨.rExtcmd,   0x2B00000000#40, 0xFFC000FFFF#40⟩ ] ++
  [ ⟨.evTick,    0x8000000000#40, 0xFFFFFFFFFF#40⟩,
    ⟨.evSline,   0x8100000000#40, 0xFFFFFEFFFF#40⟩,
    ⟨.evRline,   0x8200000000#40, 0xFFFFFEFFFF#40⟩,
    ⟨.evReset,   0x8F00000000#40, 0xFFFFFFFFFF#40⟩ ]

/-- OPC, bits 39:32 (R90). -/
def opcField (w : CommandWord) : BitVec 8 := w.extractLsb' 32 8

/-- A, bits 31:16 (R90). -/
def aField (w : CommandWord) : Operand := w.extractLsb' 16 16

/-- B, bits 15:0 (R90). -/
def bField (w : CommandWord) : Operand := w.extractLsb' 0 16

/-- The row of the opcode table with this OPC, if there is one. -/
def rowOf (opc : BitVec 8) : Option OpcodeRow := opcodeTable.find? fun r => opcField r.pattern == opc

/-- zero_mask (R110): the operand bits that must be 0, the row's mask with bits 39:32 cleared. -/
def OpcodeRow.zeroMask (r : OpcodeRow) : CommandWord := r.mask &&& 0x00FFFFFFFF#40

/-- The operand form `bit`: A[0] (R93). -/
def bitOperand (a : Operand) : Bool := a.getLsbD 0

/-- The operand form `msg`: A[13:0] (R93). -/
def msgOperand (a : Operand) : Message := a.extractLsb' 0 14

/-- The operation of a row, with its operands assembled from A and B (R93). -/
def Opcode.build (a b : Operand) : Opcode → Instr
  | .tbRdclk => .tbRdclk
  | .tbElapsed => .tbElapsed a b
  | .tbT2us => .tbT2us a
  | .tbUs2t => .tbUs2t (a ++ b)
  | .sStart => .sStart
  | .sPoll => .sPoll
  | .sRdtemp => .sRdtemp
  | .sRdhum => .sRdhum
  | .rInit => .rInit (bitOperand a)
  | .rEnable => .rEnable
  | .rDisable => .rDisable
  | .rToggle => .rToggle (msgOperand a)
  | .rAddr => .rAddr (msgOperand a)
  | .rCmd => .rCmd (msgOperand a)
  | .rExtcmd => .rExtcmd (msgOperand a)
  | .evTick => .evTick
  | .evSline => .evSline (bitOperand a)
  | .evRline => .evRline (bitOperand a)
  | .evReset => .evReset

/-- decode (R110), in the order of its checks: reserved opcode, reserved field, tick range. -/
def decode (c : Config) (w : CommandWord) : Except RefuseReason Instr :=
  match rowOf (opcField w) with
  | none => .error .reservedOpcode
  | some r =>
    if w &&& r.zeroMask ≠ 0#40 then .error .reservedField
    else if (r.op.build (aField w) (bField w)).wf c then .ok (r.op.build (aField w) (bField w))
    else .error .tickRange

/-! ## The encoder -/

/-- The OPC of an operation (R95). -/
def Instr.opc : Instr → BitVec 8
  | .tbRdclk => 0x01
  | .tbElapsed _ _ => 0x02
  | .tbT2us _ => 0x03
  | .tbUs2t _ => 0x04
  | .sStart => 0x10
  | .sPoll => 0x11
  | .sRdtemp => 0x12
  | .sRdhum => 0x13
  | .rInit _ => 0x20
  | .rEnable => 0x21
  | .rDisable => 0x22
  | .rToggle _ => 0x28
  | .rAddr _ => 0x29
  | .rCmd _ => 0x2A
  | .rExtcmd _ => 0x2B
  | .evTick => 0x80
  | .evSline _ => 0x81
  | .evRline _ => 0x82
  | .evReset => 0x8F

/-- The operand field A of an operation (R93, R95). -/
def Instr.fieldA : Instr → Operand
  | .tbElapsed later _ => later
  | .tbT2us ticks => ticks
  | .tbUs2t us => us.extractLsb' 16 16
  | .rInit v | .evSline v | .evRline v => (BitVec.ofBool v).setWidth 16
  | .rToggle m | .rAddr m | .rCmd m | .rExtcmd m => m.setWidth 16
  | .tbRdclk | .sStart | .sPoll | .sRdtemp | .sRdhum => 0
  | .rEnable | .rDisable | .evTick | .evReset => 0

/-- The operand field B of an operation (R93, R95). -/
def Instr.fieldB : Instr → Operand
  | .tbElapsed _ earlier => earlier
  | .tbUs2t us => us.extractLsb' 0 16
  | .tbRdclk | .tbT2us _ | .sStart | .sPoll | .sRdtemp | .sRdhum => 0
  | .rInit _ | .rEnable | .rDisable | .rToggle _ | .rAddr _ | .rCmd _ | .rExtcmd _ => 0
  | .evTick | .evSline _ | .evRline _ | .evReset => 0

/-- The command word of an operation: {OPC, A, B} (R90). -/
def encode (i : Instr) : CommandWord := i.opc ++ i.fieldA ++ i.fieldB

/-- The opcode-table word `w` of `nbits` bits as a command word. Bits at and above `nbits` are 0 (log 15). -/
def tableWord (nbits w : Nat) : CommandWord := BitVec.ofNat 40 (w % 2 ^ nbits)

/-- The operation the decoder reads from an instruction numbered as the opcode table numbers it, under the reference
configuration (log 15). A row of the table is one 40-bit word, so table bit k is command-word bit k (R75, R90). -/
def decodeTableWord (nbits w : Nat) : Option Instr :=
  match decode Config.reference (tableWord nbits w) with
  | .ok i => some i
  | .error _ => none

end Sys2Proof
end

