-- ==== Sys2Proof/Machine/State.lean ====
section
/-! DEFINITION. The state of the block: every register of R61, the outputs and model-only items of R58 to R60, and the
model's own fields; the outcomes' reasons; the reset state (R290 to R292).
A Tick is a natural number in [0, MODULUS) (R121). The counter's width is a parameter (R10), so the bound is an
invariant of the machine (`State.TicksInRange`) and not a width of the type (log 9). -/

namespace Sys2Proof.Machine

/-- A capture unit (R34, R35). -/
structure CaptureUnit where
  /-- SCAP_EN / RCAP_EN: capture interrupt enable. -/
  en : Bool
  /-- SCAP_PF / RCAP_PF: capture pending. -/
  pf : Bool
  /-- SICR / RICR: the captured Tick. -/
  icr : Nat
  /-- SPOL / RPOL: the armed edge polarity. -/
  pol : Polarity
deriving DecidableEq, Repr

/-- A one-shot compare channel (R36, R37). -/
structure CompareChannel where
  /-- OCR_S / OCR_R: the compare value. -/
  ocr : Nat
  /-- OCA_S / OCA_R: armed. -/
  oca : Bool
  /-- OCF_S / OCF_R: pending. -/
  ocf : Bool
deriving DecidableEq, Repr

/-- The sensor pin (R38). -/
structure SensorPin where
  /-- S_ENV: the level the sensor device presents. -/
  env : Level
  /-- S_DRV: the host drives the line low. -/
  drv : Bool
  /-- S_LINE: the level the capture unit observes. -/
  line : Level
deriving DecidableEq, Repr

/-- The sensor decoder's registers (R40 to R46). -/
structure SensorDecoder where
  /-- S_STATE. -/
  state : SState
  /-- S_PHASE: the phase-start Tick. -/
  phase : Nat
  /-- S_ACC: the bit accumulator. -/
  acc : BitVec 40
  /-- S_CNT: the bit counter. -/
  cnt : BitVec 6
  /-- S_TEMP: the published temperature, a signed integer in tenths of a degree Celsius. -/
  temp : Int
  /-- S_HUM: the published humidity in tenths of a percent. -/
  hum : BitVec 16
deriving DecidableEq, Repr

/-- The remote decoder's registers (R48 to R51). -/
structure RemoteDecoder where
  /-- R_INITD: R.INIT has run. -/
  initd : Bool
  /-- R_EN: the decoder is enabled. -/
  en : Bool
  /-- R_INV: the receiver polarity, true for inverted. -/
  inv : Bool
  /-- R_SUB: the sub-state. -/
  sub : RSub
  /-- R_ACC: the in-progress bit buffer. -/
  acc : BitVec 14
  /-- R_CNT: the bit count. -/
  cnt : BitVec 4
  /-- R_PHASE: the phase-start Tick. -/
  phase : Nat
deriving DecidableEq, Repr

/-- An output event of OUT (R58). -/
inductive OutEvent where
  /-- emit(MSG, m): the synchronous call of the registered handler with a RemoteMessage. -/
  | msg (m : Message)
  /-- emit(SDRIVE, v): the new value of S_DRV. -/
  | sdrive (v : Bool)
deriving DecidableEq, Repr

/-- An entry of TRACE with its payload (R251). -/
inductive TraceEntry where
  | sAbortTimeout
  | sAbortPulse
  | sAbortChecksum
  /-- Sub-state before, class, Duration, R_CNT. -/
  | rErrorEnter (before : RSub) (cls : PulseClass) (d : Nat) (cnt : BitVec 4)
  | rGuardReset
  /-- The capture unit that lost an edge. -/
  | captureOverrun (unit : Channel)
  /-- Humidity and raw temperature fields. -/
  | sReady (hum traw : BitVec 16)
  | rMsg (m : Message)
deriving DecidableEq, Repr

/-- What the outside world offers the block for one step (log 2, log 7). -/
inductive Stimulus where
  /-- A command word: a host operation or an environment event (R18, R90). -/
  | word (w : CommandWord)
  /-- A place where a dispatch step may occur (R260, R266). -/
  | dispatchSlot
deriving DecidableEq, Repr

/-- The state of the block (R30). -/
structure State where
  /-- The configuration record: a parameter of the step relation that no step writes (R30, R57; log 1). -/
  cfg : Config
  /-- The model's own field: the stimuli still to come, the next one first (log 2). -/
  input : List Stimulus
  /-- The model's own field: the result word of the step just taken, if it returned one (R96; log 4). -/
  result : Option ResultWord
  /-- CNT: the free-running counter (R33). -/
  cnt : Nat
  /-- SCAP_EN, SCAP_PF, SICR, SPOL. -/
  scap : CaptureUnit
  /-- RCAP_EN, RCAP_PF, RICR, RPOL. -/
  rcap : CaptureUnit
  /-- OCR_S, OCA_S, OCF_S. -/
  ocS : CompareChannel
  /-- OCR_R, OCA_R, OCF_R. -/
  ocR : CompareChannel
  /-- S_ENV, S_DRV, S_LINE. -/
  pin : SensorPin
  /-- R_LINE: the level of the IR receiver's output (R39). -/
  rLine : Level
  /-- S_STATE, S_PHASE, S_ACC, S_CNT, S_TEMP, S_HUM. -/
  sensor : SensorDecoder
  /-- R_INITD, R_EN, R_INV, R_SUB, R_ACC, R_CNT, R_PHASE. -/
  remote : RemoteDecoder
  /-- OUT: the output sequence, oldest first (R58). -/
  out : List OutEvent
  /-- TRACE: the model-only record of causes, oldest first (R59). -/
  trace : List TraceEntry
  /-- REFUSED: sticky, set by every refusal (R60). -/
  refused : Bool
  /-- OVR_S: capture overruns of the sensor unit (R60, R144). -/
  ovrS : Nat
  /-- OVR_R: capture overruns of the remote unit (R60, R144). -/
  ovrR : Nat
deriving DecidableEq, Repr

/-- Faults: none. The spec gives the block no trap and no stop (R250, R276), so the type has no constructor. -/
inductive Fault where
deriving DecidableEq, Repr

/-- Refusals: the steps to which the model gives no next state. -/
inductive Refusal where
  /-- Raised by an arm of `exec` whose instruction has no meaning yet; no arm raises it. Safe: the machine stops. -/
  | notModelled (mnemonic : String)
  /-- Raised by `step` when the configuration fails R12, which gives such a configuration no run. Safe: the machine stops. -/
  | illFormedConfiguration
deriving DecidableEq, Repr

/-- The reset values of a capture unit (R34, R35). -/
def CaptureUnit.reset : CaptureUnit := { en := false, pf := false, icr := 0, pol := .falling }

/-- The reset values of a compare channel (R36, R37). -/
def CompareChannel.reset : CompareChannel := { ocr := 0, oca := false, ocf := false }

/-- The reset values of the sensor pin (R38). -/
def SensorPin.reset : SensorPin := { env := true, drv := false, line := true }

/-- The reset values of the sensor decoder (R40 to R46). -/
def SensorDecoder.reset : SensorDecoder :=
  { state := .idle, phase := 0, acc := 0, cnt := 0, temp := 0, hum := 0 }

/-- The reset values of the remote decoder (R48 to R53). -/
def RemoteDecoder.reset : RemoteDecoder :=
  { initd := false, en := false, inv := false, sub := .midOne, acc := 0, cnt := 0, phase := 0 }

/-- The reset state under a configuration and with stimuli still to come (R61, R290, R292). -/
def State.resetWith (c : Config) (stimuli : List Stimulus) : State where
  cfg := c
  input := stimuli
  result := none
  cnt := 0
  scap := .reset
  rcap := .reset
  ocS := .reset
  ocR := .reset
  pin := .reset
  rLine := true
  sensor := .reset
  remote := .reset
  out := []
  trace := []
  refused := false
  ovrS := 0
  ovrR := 0

/-- The machine right after reset (R291, R292), under the reference configuration (R13; log 1), with no stimulus
offered yet (log 2). -/
def State.reset : State := State.resetWith Config.reference []

end Sys2Proof.Machine
end

