-- ==== Sys2Proof/Machine/Flags.lean ====
section
/-! DEFINITION. The block's flags: the four pending bits with their enables (R62), their setters by capture and compare
(R140, R142, R143), their clearing at dispatch (R263), the pending conditions (R259) and their priority (R264). -/

namespace Sys2Proof.Machine

/-- An interrupt source is pending (R259). -/
def State.pending (s : State) : Source → Bool
  | .sCap => s.scap.en && s.scap.pf
  | .rCap => s.rcap.en && s.rcap.pf
  | .sOc => s.ocS.ocf
  | .rOc => s.ocR.ocf

/-- highest_priority_pending (R264): the first pending source in the order S_CAP, R_CAP, S_OC, R_OC. -/
def State.highestPending (s : State) : Option Source :=
  if s.pending .sCap then some .sCap
  else if s.pending .rCap then some .rCap
  else if s.pending .sOc then some .sOc
  else if s.pending .rOc then some .rOc
  else none

/-- The pending bit that `take` clears before the handler runs (R263). -/
def clearPending : Source → State → State
  | .sCap, s => { s with scap := { s.scap with pf := false } }
  | .rCap, s => { s with rcap := { s.rcap with pf := false } }
  | .sOc, s => { s with ocS := { s.ocS with ocf := false } }
  | .rOc, s => { s with ocR := { s.ocR with ocf := false } }

/-- The sensor capture unit sees an edge (R142): latch and set SCAP_PF where the edge is armed; an edge that finds
SCAP_PF set overwrites the latched Tick, is counted and traced (R144). -/
def latchS (edge : Polarity) (s : State) : State :=
  if s.scap.en && decide (edge = s.scap.pol) then
    { s with
      scap := { s.scap with icr := s.cnt, pf := true }
      ovrS := if s.scap.pf then s.ovrS + 1 else s.ovrS
      trace := if s.scap.pf then s.trace ++ [.captureOverrun .S] else s.trace }
  else s

/-- The remote capture unit sees an edge (R143, R144). -/
def latchR (edge : Polarity) (s : State) : State :=
  if s.rcap.en && decide (edge = s.rcap.pol) then
    { s with
      rcap := { s.rcap with icr := s.cnt, pf := true }
      ovrR := if s.rcap.pf then s.ovrR + 1 else s.ovrR
      trace := if s.rcap.pf then s.trace ++ [.captureOverrun .R] else s.trace }
  else s

/-- A compare channel sees the counter reach `cnt` (R140): an armed match disarms it and sets its pending bit. -/
def CompareChannel.compareAt (ch : CompareChannel) (cnt : Nat) : CompareChannel :=
  if ch.oca && decide (ch.ocr = cnt) then { ch with oca := false, ocf := true } else ch

/-- The counter advances one tick and both channels compare (R140, before its dispatch). -/
def countTick (s : State) : State :=
  { s with
    cnt := addTicks s.cfg s.cnt 1
    ocS := s.ocS.compareAt (addTicks s.cfg s.cnt 1)
    ocR := s.ocR.compareAt (addTicks s.cfg s.cnt 1) }

/-- cancel(ch) on a channel (R132). -/
def CompareChannel.cancelled (ch : CompareChannel) : CompareChannel := { ch with oca := false, ocf := false }

/-- A channel armed for `t` ticks after `cnt` (R131). -/
def CompareChannel.armedAt (c : Config) (cnt t : Nat) : CompareChannel :=
  { ocr := addTicks c cnt t, oca := true, ocf := false }

/-- A capture unit turned off, its pending edge discarded: EN <- 0; PF <- 0 (R163, R168, R178, R210, R212). -/
def CaptureUnit.off (u : CaptureUnit) : CaptureUnit := { u with en := false, pf := false }

/-- A capture unit turned on with nothing pending: PF <- 0; EN <- 1 (R164, R211). -/
def CaptureUnit.on (u : CaptureUnit) : CaptureUnit := { u with en := true, pf := false }

/-- A capture unit armed for the other edge: POL <- NOT POL (R162, R216). -/
def CaptureUnit.toggled (u : CaptureUnit) : CaptureUnit := { u with pol := u.pol.flip }

end Sys2Proof.Machine
end

