-- ==== Sys2Proof/Machine/Units.lean ====
section
/-! DEFINITION. The primitives of R15 over State: emit, trace, arm, cancel, the sensor line (R142), and a refusal's
effect (R19). -/

namespace Sys2Proof.Machine

/-- emit(kind, payload) (R15, R58). -/
def emit (e : OutEvent) (s : State) : State := { s with out := s.out ++ [e] }

/-- trace(code, payload) (R15, R59). -/
def record (t : TraceEntry) (s : State) : State := { s with trace := s.trace ++ [t] }

/-- The numeric trace codes (R251). -/
def TraceEntry.code : TraceEntry → BitVec 8
  | .sAbortTimeout => 0x01
  | .sAbortPulse => 0x02
  | .sAbortChecksum => 0x03
  | .rErrorEnter _ _ _ _ => 0x04
  | .rGuardReset => 0x05
  | .captureOverrun _ => 0x06
  | .sReady _ _ => 0x10
  | .rMsg _ => 0x11

/-- code(cause) of an abort (R251). -/
def Cause.entry : Cause → TraceEntry
  | .timeout => .sAbortTimeout
  | .pulseOutOfTolerance => .sAbortPulse
  | .checksumMismatch => .sAbortChecksum

/-- A channel's registers (R36, R37). -/
def State.channel (s : State) : Channel → CompareChannel
  | .S => s.ocS
  | .R => s.ocR

/-- Write a channel's registers. -/
def State.setChannel (s : State) : Channel → CompareChannel → State
  | .S, ch => { s with ocS := ch }
  | .R, ch => { s with ocR := ch }

/-- arm(ch, u) (R131): a compare match us_to_ticks(u) ticks after the current counter value. -/
def arm (ch : Channel) (u : Nat) (s : State) : Except RefuseReason State :=
  if usToTicks s.cfg u < 1 ∨ s.cfg.modulus - 1 < usToTicks s.cfg u then .error .delayRange
  else .ok (s.setChannel ch (.armedAt s.cfg s.cnt (usToTicks s.cfg u)))

/-- cancel(ch) (R132). -/
def cancel (ch : Channel) (s : State) : State := s.setChannel ch (s.channel ch).cancelled

/-- The level the capture unit observes: S_ENV AND NOT S_DRV (R38). -/
def SensorPin.observed (p : SensorPin) : Level := p.env && !p.drv

/-- line_update_S() (R142). -/
def lineUpdateS (s : State) : State :=
  if s.pin.observed = s.pin.line then s
  else latchS (edgeTo s.pin.observed) { s with pin := { s.pin with line := s.pin.observed } }

/-- S_DRV <- v; emit(SDRIVE, v); line_update_S() (R163, R164, R168). -/
def driveS (v : Bool) (s : State) : State :=
  lineUpdateS (emit (.sdrive v) { s with pin := { s.pin with drv := v } })

/-- S_ENV <- v; line_update_S() (R141). -/
def presentS (v : Level) (s : State) : State := lineUpdateS { s with pin := { s.pin with env := v } }

/-- The IR receiver's output goes to level v (R143, before its dispatch). -/
def presentR (v : Level) (s : State) : State :=
  if v = s.rLine then s else latchR (edgeTo v) { s with rLine := v }

/-- A refusal's effect (R19, R110): REFUSED <- 1, nothing else of the block, and no result word. -/
def refuse (s : State) : State := { s with refused := true, result := none }

end Sys2Proof.Machine
end

