-- ==== Sys2Proof/Machine/RemoteHandlers.lean ====
section
/-! DEFINITION. The remote decoder's handlers: remote_capture (R213 to R219), remote_timeout (R220) and frame_reset
(R205). -/

namespace Sys2Proof.Machine

/-- R_ACC <- 0; R_CNT <- 0; R_SUB <- MidOne; RPOL <- the frame-start polarity; cancel(R) (R205). -/
def frameReset (s : State) : State :=
  cancel .R
    { s with
      remote := { s.remote with acc := 0, cnt := 0, sub := .midOne }
      rcap := { s.rcap with pol := frameStartPolarity s.remote.inv } }

/-- RPOL <- NOT RPOL (R216). -/
def toggleR (s : State) : State := { s with rcap := s.rcap.toggled }

/-- first_edge(t) (R214), with t = RICR. -/
def firstEdge (s : State) : State :=
  toggleR { s with remote := { s.remote with sub := .midOne, acc := 1, cnt := 1, phase := s.rcap.icr } }

/-- error_edge() (R215): the guard restarts. -/
def errorEdge (s : State) : Except RefuseReason State :=
  arm .R (guardUs s.cfg s.remote.cnt.toNat) s

/-- enter_error(from, class, d) (R217). -/
def enterError (cls : PulseClass) (d : Nat) (s : State) : Except RefuseReason State :=
  (arm .R (guardUs s.cfg s.remote.cnt.toNat) { s with remote := { s.remote with sub := .error } }).map
    (record (.rErrorEnter s.remote.sub cls d s.remote.cnt))

/-- append(b) (R203). -/
def appendR (b : Bool) (s : State) : State :=
  { s with remote := { s.remote with acc := shiftIn14 s.remote.acc b, cnt := s.remote.cnt + 1 } }

/-- complete() (R219). -/
def completeR (s : State) : State :=
  frameReset (record (.rMsg s.remote.acc) (emit (.msg s.remote.acc) s))

/-- The completion check (R213, R218). -/
def completionCheck (s : State) : State :=
  if s.remote.cnt.toNat = Config.frameBits then completeR s else s

/-- R_SUB <- n, with the bit of a Mid state appended and the completion checked (R203, R213, R218). -/
def enterSub (n : RSub) (s : State) : State :=
  match n with
  | .midZero => completionCheck (appendR false { s with remote := { s.remote with sub := n } })
  | .midOne => completionCheck (appendR true { s with remote := { s.remote with sub := n } })
  | .startZero | .startOne | .error => completionCheck { s with remote := { s.remote with sub := n } }

/-- An edge inside a frame and outside Error, of class `cls` after `d` µs (R213). -/
def frameEdge (cls : PulseClass) (d : Nat) (s : State) : Except RefuseReason State :=
  if nextSub s.remote.sub cls = .error then enterError cls d s
  else .ok (enterSub (nextSub s.remote.sub cls) s)

/-- R_PHASE <- t; RPOL <- NOT RPOL, with t = RICR (R213, R216). -/
def measureR (s : State) : State := toggleR { s with remote := { s.remote with phase := s.rcap.icr } }

/-- remote_capture() (R213). -/
def remoteCapture (s : State) : Except RefuseReason State :=
  if s.remote.cnt = 0 then .ok (firstEdge s)
  else if s.remote.sub = .error then errorEdge (measureR s)
  else
    frameEdge (classify s.cfg (elapsed s.cfg s.rcap.icr s.remote.phase))
      (elapsed s.cfg s.rcap.icr s.remote.phase) (measureR s)

/-- remote_timeout() (R220). -/
def remoteTimeout (s : State) : Except RefuseReason State :=
  if s.remote.sub = .error then .ok (record .rGuardReset (frameReset s)) else .ok s

end Sys2Proof.Machine
end

