-- ==== Sys2Proof/Machine/SensorHandlers.lean ====
section
/-! DEFINITION. The sensor decoder's handlers: sensor_capture (R166 to R172), finish (R178), abort (R168) and
sensor_timeout (R164). -/

namespace Sys2Proof.Machine

/-- S_ACC <- 0; S_CNT <- 0. -/
def clearBits (s : State) : State := { s with sensor := { s.sensor with acc := 0, cnt := 0 } }

/-- SCAP_EN <- 0; SCAP_PF <- 0. -/
def captureOffS (s : State) : State := { s with scap := s.scap.off }

/-- S_STATE <- next. -/
def setSState (next : SState) (s : State) : State := { s with sensor := { s.sensor with state := next } }

/-- SPOL <- NOT SPOL. -/
def toggleS (s : State) : State := { s with scap := s.scap.toggled }

/-- advance(next) (R162). -/
def advance (next : SState) (s : State) : State := toggleS (setSState next s)

/-- The release of the request drive inside abort (R168). -/
def releaseS (s : State) : State := if s.pin.drv then driveS false s else s

/-- abort(cause) (R168). -/
def abort (cause : Cause) (s : State) : State :=
  record cause.entry (setSState .idle (releaseS (cancel .S (captureOffS (clearBits s)))))

/-- The atomic publication of a reading (R178): S_HUM and S_TEMP change in one step. -/
def publish (s : State) : State :=
  { s with sensor := { s.sensor with hum := humField s.sensor.acc, temp := decodeTemp (tempField s.sensor.acc) } }

/-- finish() (R178): runs when the 40th bit has been appended. -/
def finish (s : State) : State :=
  if checksumOk s.sensor.acc then
    record (.sReady (humField s.sensor.acc) (tempField s.sensor.acc))
      (setSState .ready (cancel .S (captureOffS (clearBits (publish s)))))
  else abort .checksumMismatch s

/-- S_ACC <- trunc_40((S_ACC << 1) OR b); S_CNT <- S_CNT + 1 (R172). -/
def appendS (b : Bool) (s : State) : State :=
  { s with sensor := { s.sensor with acc := shiftIn40 s.sensor.acc b, cnt := s.sensor.cnt + 1 } }

/-- A bit is accepted in BitPhase (R172): append, toggle, then completion at 40 bits or the next bit. -/
def acceptBit (b : Bool) (s : State) : State :=
  if (toggleS (appendS b s)).sensor.cnt.toNat = Config.sensorFrameBits then finish (toggleS (appendS b s))
  else setSState .awaitBit (toggleS (appendS b s))

/-- A window's outcome: advance on a match, abort otherwise (R167, R169, R170, R171). -/
def windowed (matched : Bool) (next : SState) (s : State) : State :=
  if matched then advance next s else abort .pulseOutOfTolerance s

/-- Case BitPhase (R172). -/
def bitPhaseEdge (d : Nat) (s : State) : State :=
  match bitOfHigh s.cfg d with
  | some b => acceptBit b s
  | none => abort .pulseOutOfTolerance s

/-- The sensor's evaluation of a captured interval `d` in its current state (R166 to R172, R179). -/
def sensorEdge (d : Nat) (s : State) : State :=
  match s.sensor.state with
  | .awaitAck => windowed (winResp s.cfg d) .ackPhase s
  | .ackPhase => windowed (winAck s.cfg d) .awaitBitStart s
  | .awaitBitStart => windowed (winDstart s.cfg d) .awaitBit s
  | .awaitBit => windowed (winLow s.cfg d) .bitPhase s
  | .bitPhase => bitPhaseEdge d s
  | .idle | .requesting | .ready => s

/-- sensor_capture() (R166): in a capturing state, measure from the phase-start, restart it, evaluate. -/
def sensorCapture (s : State) : State :=
  if s.sensor.state.capturing then
    sensorEdge (elapsed s.cfg s.scap.icr s.sensor.phase)
      { s with sensor := { s.sensor with phase := s.scap.icr } }
  else s

/-- The end of the request pulse, but for the arming of the watchdog (R164, case Requesting). -/
def startListening (s : State) : State :=
  setSState .awaitAck
    { driveS false s with
      scap := { (driveS false s).scap with pol := .falling, pf := false, en := true }
      sensor := { (driveS false s).sensor with phase := (driveS false s).cnt } }

/-- sensor_timeout() (R164). -/
def sensorTimeout (s : State) : Except RefuseReason State :=
  match s.sensor.state with
  | .requesting => arm .S s.cfg.sensorWatchdogUs (startListening s)
  | .awaitAck | .ackPhase | .awaitBitStart | .awaitBit | .bitPhase => .ok (abort .timeout s)
  | .idle | .ready => .ok s

end Sys2Proof.Machine
end

