-- ==== Sys2Proof/Machine/Ops.lean ====
section
/-! DEFINITION. Taking an interrupt and returning from it (R263, R265), dispatch (R261, R266), the end of an operation,
and the reading of the next stimulus. -/

namespace Sys2Proof.Machine

/-- The handler of a source, fixed by R259's table. -/
def handler : Source → State → Except RefuseReason State
  | .sCap, s => .ok (sensorCapture s)
  | .rCap, s => remoteCapture s
  | .sOc, s => sensorTimeout s
  | .rOc, s => remoteTimeout s

/-- The return from a handler (R265): it restores nothing, because the entry saved nothing. -/
def handlerReturn (s : State) : State := s

/-- take(src) (R263), the block's whole trap entry: clear the pending bit, run the handler, return. Nothing is saved
(R267). -/
def take (src : Source) (s : State) : Except RefuseReason State :=
  (handler src (clearPending src s)).map handlerReturn

/-- At most `n` dispatch steps, by priority, until no source is pending (R261). -/
def dispatchLoop : Nat → State → Except RefuseReason State
  | 0, s => .ok s
  | n + 1, s =>
    match s.highestPending with
    | none => .ok s
    | some src => (take src s).bind (dispatchLoop n)

/-- dispatch() (R261). Four passes reach the end of the loop: there are four sources, each pass clears one, and no
handler makes a source pending (R265; log 10). -/
def dispatch (s : State) : Except RefuseReason State := dispatchLoop 4 s

/-- The end of a host operation or an environment event: dispatch() under eager dispatch (R261), nothing in the
latency variant (R266). -/
def settle (s : State) : Except RefuseReason State := if s.cfg.irqLatencyFree then .ok s else dispatch s

/-- The outcome of a step that began in `s`: its next state, or the refusal's effect on `s` itself (R15, R19; log 6). -/
def commit (s : State) : Except RefuseReason State → Host.Outcome State Fault Refusal
  | .ok t => .next t
  | .error _ => .next (refuse s)

/-- A host operation that began in `s` ends in `t` with result word `r` (R96, R261). -/
def respond (s t : State) (r : ResultWord) : Host.Outcome State Fault Refusal :=
  commit s (settle { t with result := some r })

/-- An environment event that began in `s` ends in `t`, with no result word (R96, R261). -/
def conclude (s t : State) : Host.Outcome State Fault Refusal :=
  commit s (settle { t with result := none })

/-- A dispatch step of the latency variant (R260, R266): take the highest-priority pending source, if there is one.
Under eager dispatch the dispatch steps belong to other steps and this place holds none (log 7). -/
def dispatchStep (s : State) : Host.Outcome State Fault Refusal :=
  if s.cfg.irqLatencyFree then
    match s.highestPending with
    | none => .next { s with result := none }
    | some src => commit s ((take src { s with result := none }))
  else .next { s with result := none }

/-- The next stimulus and the state with it consumed (log 2). -/
def fetch (s : State) : Option (Stimulus × State) :=
  match s.input with
  | [] => none
  | x :: rest => some (x, { s with input := rest })

/-- The state with a command word offered before every other stimulus (log 2). -/
def offer (w : CommandWord) (s : State) : State := { s with input := .word w :: s.input }

end Sys2Proof.Machine
end

