-- ==== Sys2Proof/Machine/Environment.lean ====
section
/-! DEFINITION. The environment events (R140, R141, R143, R290). -/

namespace Sys2Proof.Machine

/-- `EV.TICK` (R140). -/
def execEvTick (s : State) : Host.Outcome State Fault Refusal := conclude s (countTick s)

/-- `EV.SLINE level` (R141). -/
def execEvSline (level : Level) (s : State) : Host.Outcome State Fault Refusal := conclude s (presentS level s)

/-- `EV.RLINE level` (R143). -/
def execEvRline (level : Level) (s : State) : Host.Outcome State Fault Refusal := conclude s (presentR level s)

/-- `EV.RESET` (R290): every register at its reset value, the configuration kept (R57), the stimuli still to come kept
(log 2). It calls no dispatch. -/
def execEvReset (s : State) : Host.Outcome State Fault Refusal := .next (State.resetWith s.cfg s.input)

end Sys2Proof.Machine
end

