-- ==== Sys2Proof/Machine/Remote.lean ====
section
/-! DEFINITION. The remote decoder's control operations (R210 to R212) and field extractors (R222 to R225). -/

namespace Sys2Proof.Machine

/-- R_EN <- 0; RCAP_EN <- 0; RCAP_PF <- 0 (R210, R212). -/
def remoteOff (s : State) : State :=
  { s with remote := { s.remote with en := false }, rcap := s.rcap.off }

/-- The effect of `R.INIT` (R210): off, R_INV <- p, R_INITD <- 1, frame_reset(). -/
def initialise (polarity : Bool) (s : State) : State :=
  frameReset { remoteOff s with remote := { (remoteOff s).remote with inv := polarity, initd := true } }

/-- `R.INIT polarity` (R210). -/
def execRInit (polarity : Bool) (s : State) : Host.Outcome State Fault Refusal := respond s (initialise polarity s) 0

/-- The effect of an accepted `R.ENABLE` (R211). -/
def remoteOn (s : State) : State :=
  { frameReset s with
    rcap := (frameReset s).rcap.on
    remote := { (frameReset s).remote with en := true } }

/-- `R.ENABLE` (R211): rejected before initialisation, unchanged when enabled, rejected while a Busy sensor holds a
shared capture channel. -/
def execREnable (s : State) : Host.Outcome State Fault Refusal :=
  if !s.remote.initd then respond s s 0
  else if s.remote.en then respond s s 1
  else if s.cfg.sharedCapture && s.sensor.state.busy then respond s s 0
  else respond s (remoteOn s) 1

/-- `R.DISABLE` (R212). -/
def execRDisable (s : State) : Host.Outcome State Fault Refusal := respond s (frameReset (remoteOff s)) 0

/-- `R.TOGGLE msg` (R222). -/
def execRToggle (msg : Message) (s : State) : Host.Outcome State Fault Refusal :=
  respond s s ((msgToggle msg).setWidth 32)

/-- `R.ADDR msg` (R223). -/
def execRAddr (msg : Message) (s : State) : Host.Outcome State Fault Refusal :=
  respond s s ((msgAddress msg).setWidth 32)

/-- `R.CMD msg` (R224). -/
def execRCmd (msg : Message) (s : State) : Host.Outcome State Fault Refusal :=
  respond s s ((msgCommand msg).setWidth 32)

/-- `R.EXTCMD msg` (R225). -/
def execRExtcmd (msg : Message) (s : State) : Host.Outcome State Fault Refusal :=
  respond s s ((msgExtCommand s.cfg msg).setWidth 32)

end Sys2Proof.Machine
end

