-- ==== Sys2Proof/Machine/Sensor.lean ====
section
/-! DEFINITION. The sensor decoder's host operations (R163, R173 to R175). -/

namespace Sys2Proof.Machine

/-- `S.START` is accepted: from Idle, and not while the remote decoder holds a shared capture channel (R163). -/
def startAccepted (s : State) : Bool :=
  decide (s.sensor.state = .idle) && !(s.cfg.sharedCapture && s.remote.en)

/-- The effect of an accepted `S.START` but for the arming of the request one-shot (R163). -/
def beginRequest (s : State) : State := setSState .requesting (driveS true (captureOffS (clearBits s)))

/-- `S.START` (R163). -/
def execSStart (s : State) : Host.Outcome State Fault Refusal :=
  if startAccepted s then
    commit s ((arm .S s.cfg.requestUs (beginRequest s)).bind fun t => settle { t with result := some 1 })
  else respond s s 0

/-- `S.POLL` (R173). -/
def execSPoll (s : State) : Host.Outcome State Fault Refusal := respond s s s.sensor.state.pollCode

/-- The consuming read's effect on the state (R174, R175, C5): Ready to Idle; nothing in a Busy state. -/
def consume (s : State) : State := if s.sensor.state.busy then s else setSState .idle s

/-- `S.RDTEMP` (R174). -/
def execSRdtemp (s : State) : Host.Outcome State Fault Refusal :=
  respond s (consume s) (tempResult s.sensor.temp)

/-- `S.RDHUM` (R175). -/
def execSRdhum (s : State) : Host.Outcome State Fault Refusal :=
  respond s (consume s) (s.sensor.hum.setWidth 32)

end Sys2Proof.Machine
end

