-- ==== Sys2Proof/Machine/Timebase.lean ====
section
/-! DEFINITION. The Timebase host operations (R145 to R148). -/

namespace Sys2Proof.Machine

/-- `TB.RDCLK` (R145). -/
def execTbRdclk (s : State) : Host.Outcome State Fault Refusal := respond s s (resultOfNat s.cnt)

/-- `TB.ELAPSED later, earlier` (R146). A tick operand at or above MODULUS is refused (R110 (c)). -/
def execTbElapsed (later earlier : Operand) (s : State) : Host.Outcome State Fault Refusal :=
  if tickInRange s.cfg later && tickInRange s.cfg earlier then respond s s (elapsedResult s.cfg later earlier)
  else .next (refuse s)

/-- `TB.T2US ticks` (R147). -/
def execTbT2us (ticks : Operand) (s : State) : Host.Outcome State Fault Refusal :=
  respond s s (t2usResult s.cfg ticks)

/-- `TB.US2T us` (R148). -/
def execTbUs2t (us : BitVec 32) (s : State) : Host.Outcome State Fault Refusal :=
  respond s s (us2tResult s.cfg us)

end Sys2Proof.Machine
end

