-- ==== Sys2Proof/Machine/Dispatch.lean ====
section
/-! DEFINITION. The meaning of every operation, one arm per constructor of Instr. -/

namespace Sys2Proof.Machine

def exec (i : Instr) (s : State) : Host.Outcome State Fault Refusal :=
  match i with
  -- Timebase
  | .tbRdclk => Sys2Proof.Machine.execTbRdclk s
  | .tbElapsed later earlier => Sys2Proof.Machine.execTbElapsed later earlier s
  | .tbT2us ticks => Sys2Proof.Machine.execTbT2us ticks s
  | .tbUs2t us => Sys2Proof.Machine.execTbUs2t us s
  -- Sensor decoder
  | .sStart => Sys2Proof.Machine.execSStart s
  | .sPoll => Sys2Proof.Machine.execSPoll s
  | .sRdtemp => Sys2Proof.Machine.execSRdtemp s
  | .sRdhum => Sys2Proof.Machine.execSRdhum s
  -- Remote decoder
  | .rInit polarity => Sys2Proof.Machine.execRInit polarity s
  | .rEnable => Sys2Proof.Machine.execREnable s
  | .rDisable => Sys2Proof.Machine.execRDisable s
  | .rToggle msg => Sys2Proof.Machine.execRToggle msg s
  | .rAddr msg => Sys2Proof.Machine.execRAddr msg s
  | .rCmd msg => Sys2Proof.Machine.execRCmd msg s
  | .rExtcmd msg => Sys2Proof.Machine.execRExtcmd msg s
  -- Environment
  | .evTick => Sys2Proof.Machine.execEvTick s
  | .evSline level => Sys2Proof.Machine.execEvSline level s
  | .evRline level => Sys2Proof.Machine.execEvRline level s
  | .evReset => Sys2Proof.Machine.execEvReset s

end Sys2Proof.Machine
end

