-- ==== Sys2Proof/Machine/Step.lean ====
section
/-! DEFINITION. One step of the machine (R17, R260): one stimulus, consumed and given its meaning. -/

namespace Sys2Proof.Machine

/-- The meaning of one stimulus on the state it has been taken from (R17, R110, R260). -/
def runStimulus (x : Stimulus) (s : State) : Host.Outcome State Fault Refusal :=
  match x with
  | .word w =>
    match decode s.cfg w with
    | .ok i => exec i s
    | .error _ => .next (refuse s)
  | .dispatchSlot => dispatchStep s

/-- One step. An ill-formed configuration gets no run (R12; log 5). Without a stimulus nothing happens (R274; log 3). -/
def step (s : State) : Host.Outcome State Fault Refusal :=
  if s.cfg.wf then
    match fetch s with
    | none => .next s
    | some (x, t) => runStimulus x t
  else .refused .illFormedConfiguration

/-- `s` with the instruction of the opcode table's bits `w` offered as the next stimulus (log 2, log 15). -/
def State.withFetchWord (s : State) (nbits w : Nat) : State := offer (tableWord nbits w) s

end Sys2Proof.Machine
end

