-- ==== Sys2Proof/Machine/Assembler.lean ====
section
/-! DEFINITION. The stimulus programs' text (R112), the three pseudo-instructions (R113) and the disassembler (R114).
What the rules leave open about the text is in log 16. -/

namespace Sys2Proof.Machine

/-! ## Pseudo-instructions (R113) -/

/-- One line of a stimulus program, assembled: an operation or a pseudo-instruction (R112, R113). -/
inductive AsmLine where
  | op (i : Instr)
  /-- `WAIT n`. -/
  | wait (n : Nat)
  /-- `SLEVEL v, n`. -/
  | slevel (v : Level) (n : Nat)
  /-- `RLEVEL v, n`. -/
  | rlevel (v : Level) (n : Nat)
deriving DecidableEq, Repr

/-- The operations a line expands into, in order (R113). -/
def AsmLine.expand : AsmLine → List Instr
  | .op i => [i]
  | .wait n => List.replicate n .evTick
  | .slevel v n => .evSline v :: List.replicate n .evTick
  | .rlevel v n => .evRline v :: List.replicate n .evTick

/-- The command words of a program's lines (R112, R113). -/
def assembleLines (ls : List AsmLine) : List CommandWord := (ls.flatMap AsmLine.expand).map encode

/-! ## Mnemonics and operands (R112) -/

/-- The mnemonic of an operation (R95). -/
def mnemonicOf : Opcode → String
  | .tbRdclk => "TB.RDCLK"
  | .tbElapsed => "TB.ELAPSED"
  | .tbT2us => "TB.T2US"
  | .tbUs2t => "TB.US2T"
  | .sStart => "S.START"
  | .sPoll => "S.POLL"
  | .sRdtemp => "S.RDTEMP"
  | .sRdhum => "S.RDHUM"
  | .rInit => "R.INIT"
  | .rEnable => "R.ENABLE"
  | .rDisable => "R.DISABLE"
  | .rToggle => "R.TOGGLE"
  | .rAddr => "R.ADDR"
  | .rCmd => "R.CMD"
  | .rExtcmd => "R.EXTCMD"
  | .evTick => "EV.TICK"
  | .evSline => "EV.SLINE"
  | .evRline => "EV.RLINE"
  | .evReset => "EV.RESET"

/-- An operand of the form `bit`: 0 or 1. -/
def asBit (n : Nat) : Option Bool := if n = 0 then some false else if n = 1 then some true else none

/-- An operand that must fit `k` bits. -/
def asBits (k n : Nat) : Option (BitVec k) := if n < 2 ^ k then some (BitVec.ofNat k n) else none

/-- The operation of a mnemonic with its operands in the order of R112; none where they do not fit (log 16). -/
def withOperands : Opcode → List Nat → Option Instr
  | .tbRdclk, [] => some .tbRdclk
  | .tbElapsed, [later, earlier] =>
    match asBits 16 later, asBits 16 earlier with
    | some a, some b => some (.tbElapsed a b)
    | _, _ => none
  | .tbT2us, [ticks] => (asBits 16 ticks).map .tbT2us
  | .tbUs2t, [us] => (asBits 32 us).map .tbUs2t
  | .sStart, [] => some .sStart
  | .sPoll, [] => some .sPoll
  | .sRdtemp, [] => some .sRdtemp
  | .sRdhum, [] => some .sRdhum
  | .rInit, [p] => (asBit p).map .rInit
  | .rEnable, [] => some .rEnable
  | .rDisable, [] => some .rDisable
  | .rToggle, [m] => (asBits 14 m).map .rToggle
  | .rAddr, [m] => (asBits 14 m).map .rAddr
  | .rCmd, [m] => (asBits 14 m).map .rCmd
  | .rExtcmd, [m] => (asBits 14 m).map .rExtcmd
  | .evTick, [] => some .evTick
  | .evSline, [v] => (asBit v).map .evSline
  | .evRline, [v] => (asBit v).map .evRline
  | .evReset, [] => some .evReset
  | _, _ => none

/-! ## Reading a line of text (R112) -/

/-- A character that separates the parts of a line (log 16). -/
def isBlank (c : Char) : Bool := c == ' ' || c == '\t' || c == '\r' || c == '\n'

/-- A text without the blanks at its two ends. -/
def trimBlanks (cs : List Char) : List Char := ((cs.dropWhile isBlank).reverse.dropWhile isBlank).reverse

/-- The value of a digit in a base up to 16. -/
def digitValue (base : Nat) (c : Char) : Option Nat :=
  match "0123456789abcdef".toList.findIdx? (· == c.toLower) with
  | some k => if k < base then some k else none
  | none => none

/-- A non-empty sequence of digits, read on from the value `acc`. -/
def readDigits (base : Nat) : Nat → List Char → Option Nat
  | acc, [] => some acc
  | acc, c :: cs =>
    match digitValue base c with
    | some k => readDigits base (acc * base + k) cs
    | none => none

/-- A decimal number, or a hexadecimal one with `0x` (R112). -/
def readNumber : List Char → Option Nat
  | [] => none
  | ['0', 'x'] => none
  | '0' :: 'x' :: cs => readDigits 16 0 cs
  | cs => readDigits 10 0 cs

/-- The parts of a text between commas. -/
def splitCommas : List Char → List (List Char)
  | [] => [[]]
  | c :: cs =>
    match c == ',', splitCommas cs with
    | true, parts => [] :: parts
    | false, part :: parts => (c :: part) :: parts
    | false, [] => [[c]]

/-- All of a list's entries, or none. -/
def allOrNone : List (Option Nat) → Option (List Nat)
  | [] => some []
  | none :: _ => none
  | some n :: rest => (allOrNone rest).map (n :: ·)

/-- The operands of a line (R112). -/
def readOperands (cs : List Char) : Option (List Nat) :=
  if (trimBlanks cs).isEmpty then some []
  else allOrNone ((splitCommas cs).map fun p => readNumber (trimBlanks p))

/-- A line of a mnemonic and its operands. -/
def lineOf (mnemonic : List Char) (operands : List Nat) : Option AsmLine :=
  match String.ofList mnemonic, operands with
  | "WAIT", [n] => some (.wait n)
  | "SLEVEL", [v, n] => (asBit v).map fun b => .slevel b n
  | "RLEVEL", [v, n] => (asBit v).map fun b => .rlevel b n
  | name, operands =>
    match opcodeTable.find? fun r => mnemonicOf r.op == name with
    | some r => (withOperands r.op operands).map .op
    | none => none

/-- One line of text (R112): a mnemonic in capitals or not, operands separated by commas, a comment after `;`. -/
def readLine (line : String) : Option AsmLine :=
  let code := (line.toList.takeWhile (· != ';')).dropWhile isBlank
  let mnemonic := (code.takeWhile fun c => !isBlank c).map Char.toUpper
  match readOperands (code.dropWhile fun c => !isBlank c) with
  | some operands => lineOf mnemonic operands
  | none => none

/-! ## The disassembler (R114) -/

/-- The lowest `n` hexadecimal digits of a number, the highest first, in capitals. -/
def hexDigits : Nat → Nat → List Char
  | 0, _ => []
  | n + 1, v => hexDigits n (v / 16) ++ [("0123456789ABCDEF".toList.getD (v % 16) '0')]

/-- A message operand: hexadecimal with four digits (R114). -/
def msgText (m : Message) : String := "0x" ++ String.ofList (hexDigits 4 m.toNat)

/-- A bit operand (R114). -/
def bitText (b : Bool) : String := if b then "1" else "0"

/-- A legal operation as text (R114). The rule adds no operand to `TB.T2US` (log 16). -/
def instrText : Instr → String
  | .tbRdclk => "TB.RDCLK"
  | .tbElapsed later earlier => "TB.ELAPSED " ++ toString later.toNat ++ ", " ++ toString earlier.toNat
  | .tbT2us _ => "TB.T2US"
  | .tbUs2t us => "TB.US2T " ++ toString us.toNat
  | .sStart => "S.START"
  | .sPoll => "S.POLL"
  | .sRdtemp => "S.RDTEMP"
  | .sRdhum => "S.RDHUM"
  | .rInit p => "R.INIT " ++ bitText p
  | .rEnable => "R.ENABLE"
  | .rDisable => "R.DISABLE"
  | .rToggle m => "R.TOGGLE " ++ msgText m
  | .rAddr m => "R.ADDR " ++ msgText m
  | .rCmd m => "R.CMD " ++ msgText m
  | .rExtcmd m => "R.EXTCMD " ++ msgText m
  | .evTick => "EV.TICK"
  | .evSline v => "EV.SLINE " ++ bitText v
  | .evRline v => "EV.RLINE " ++ bitText v
  | .evReset => "EV.RESET"

/-- The disassembly of a command word (R114). -/
def disassemble (c : Config) (w : CommandWord) : String :=
  match decode c w with
  | .ok i => instrText i
  | .error _ => ".word40 0x" ++ String.ofList (hexDigits 10 w.toNat)

end Sys2Proof.Machine
end

