-- ==== Sys2Proof/Safety.lean ====
section
/-! DEFINITION. The terms claims are stated in: quiet states, the invariants of R38, R47, R54, R216 and R35, and safe
runs (R19). -/

namespace Sys2Proof.Machine

/-- Nothing waits for a dispatch that eager dispatch would already have run (R261). In the latency variant sources may
stay pending between steps (R266). -/
abbrev State.Settled (s : State) : Prop := s.cfg.irqLatencyFree = true ∨ s.highestPending = none

/-- Every Tick register is in [0, MODULUS) (R33, R121). -/
abbrev State.TicksInRange (s : State) : Prop :=
  s.cnt < s.cfg.modulus ∧ s.scap.icr < s.cfg.modulus ∧ s.rcap.icr < s.cfg.modulus ∧
  s.ocS.ocr < s.cfg.modulus ∧ s.ocR.ocr < s.cfg.modulus ∧
  s.sensor.phase < s.cfg.modulus ∧ s.remote.phase < s.cfg.modulus

/-- S_LINE is always S_ENV AND NOT S_DRV (R38). -/
abbrev State.SensorLineWired (s : State) : Prop := s.pin.line = s.pin.observed

/-- The states in which the accumulator may hold bits (R47 (c)). -/
def SState.collecting : SState → Bool
  | .awaitBit | .bitPhase => true
  | .idle | .requesting | .awaitAck | .ackPhase | .awaitBitStart | .ready => false

/-- The sensor's invariants (R47 (a) to (f)) and the range of S_TEMP (R45). -/
abbrev State.SensorInv (s : State) : Prop :=
  s.sensor.cnt.toNat ≤ 39 ∧
  s.sensor.acc.toNat < 2 ^ s.sensor.cnt.toNat ∧
  (s.sensor.state.collecting = false → s.sensor.acc = 0 ∧ s.sensor.cnt = 0) ∧
  s.scap.en = s.sensor.state.capturing ∧
  s.pin.drv = decide (s.sensor.state = .requesting) ∧
  (s.ocS.oca = true ∨ s.ocS.ocf = true → s.sensor.state.busy = true) ∧
  (-32767 ≤ s.sensor.temp ∧ s.sensor.temp ≤ 32767)

/-- The edge the remote decoder is armed for, from the sub-state (R216's table). -/
def expectedEdge (inv : Bool) (sub : RSub) : Polarity :=
  if sub.lineActive then (frameStartPolarity inv).flip else frameStartPolarity inv

/-- The remote's invariants (R54 (a) to (f)), with R53's value of R_SUB in an empty frame, with the leading 1 of every
frame that R214 seeds, and with the decoder enabled inside a frame. -/
abbrev State.RemoteInv (s : State) : Prop :=
  s.remote.cnt.toNat ≤ 13 ∧
  s.remote.acc.toNat < 2 ^ s.remote.cnt.toNat ∧
  (s.remote.cnt ≠ 0 → 2 ^ (s.remote.cnt.toNat - 1) ≤ s.remote.acc.toNat) ∧
  (s.remote.cnt = 0 → s.remote.acc = 0 ∧ s.rcap.pol = frameStartPolarity s.remote.inv ∧ s.remote.sub = .midOne) ∧
  (s.ocR.oca = true ∨ s.ocR.ocf = true → s.remote.sub = .error) ∧
  s.rcap.en = s.remote.en ∧
  (s.remote.cnt ≠ 0 → s.remote.en = true) ∧
  (s.remote.cnt ≠ 0 → s.remote.sub ≠ .error → s.rcap.pol = expectedEdge s.remote.inv s.remote.sub)

/-- Under eager dispatch, inside a frame the remote decoder is armed for the next edge of its line (R216: toggling on
every edge keeps RPOL equal to the direction of the next edge). -/
abbrev State.RemoteLineTracked (s : State) : Prop :=
  s.cfg.irqLatencyFree = false → s.remote.cnt ≠ 0 → s.rcap.pol = edgeTo (!s.rLine)

/-- With a shared capture channel the remote decoder is not enabled while the sensor is Busy (R35, R302). -/
abbrev State.CaptureExclusive (s : State) : Prop :=
  s.cfg.sharedCapture = true → s.remote.en = true → s.sensor.state.busy = false

/-- All of them. -/
abbrev State.Inv (s : State) : Prop :=
  s.TicksInRange ∧ s.SensorLineWired ∧ s.SensorInv ∧ s.RemoteInv ∧ s.RemoteLineTracked ∧ s.CaptureExclusive ∧ s.Settled

/-- A run is safe to make claims about when no refusal has happened in it (R19). -/
abbrev State.NotRefused (s : State) : Prop := s.refused = false

/-- The stimulus that resets the block (R290). -/
def Stimulus.isReset : Stimulus → Bool
  | .word w => w == 0x8F00000000#40
  | .dispatchSlot => false

/-- The next stimulus, if there is one, does not reset the block. -/
abbrev State.NoResetNext (s : State) : Prop := ∀ x ∈ s.input.head?, x.isReset = false

/-! ## Words -/

/-- The opcodes of R95. -/
def legalOpcodes : List (BitVec 8) :=
  [0x01, 0x02, 0x03, 0x04] ++ [0x10, 0x11, 0x12, 0x13] ++ [0x20, 0x21, 0x22, 0x28, 0x29, 0x2A, 0x2B] ++
    [0x80, 0x81, 0x82, 0x8F]

/-- The opcodes that take no operand (R95). -/
def bareOpcodes : List (BitVec 8) :=
  [0x01, 0x10, 0x11, 0x12, 0x13] ++ [0x21, 0x22] ++ [0x80, 0x8F]

/-- A command word is illegal (R110), from its fields: (a) reserved opcode, (b) a bit that must be 0, (c) tick range. -/
def IllegalWord (c : Config) (w : CommandWord) : Prop :=
  opcField w ∉ legalOpcodes ∨
  (opcField w ∈ bareOpcodes ∧ ¬(aField w = 0 ∧ bField w = 0)) ∨
  (opcField w ∈ [0x20#8, 0x81, 0x82] ∧ ¬((aField w).toNat < 2 ∧ bField w = 0)) ∨
  (opcField w ∈ [0x28#8, 0x29, 0x2A, 0x2B] ∧ ¬((aField w).toNat < 2 ^ 14 ∧ bField w = 0)) ∨
  (opcField w = 0x03 ∧ bField w ≠ 0) ∨
  (opcField w = 0x02 ∧ (c.modulus ≤ (aField w).toNat ∨ c.modulus ≤ (bField w).toNat))

/-- WF1 to WF6 (R12), as the rule writes them, with integer subtraction. -/
def WellFormedConfiguration (c : Config) : Prop :=
  (1 ≤ c.counterBits ∧ c.counterBits ≤ 16) ∧
  (1 ≤ c.fCpuHz ∧ 1 ≤ c.prescaler) ∧
  (∀ u : Nat, (u = c.requestUs ∨ u = c.sensorWatchdogUs ∨
      ∃ k : Nat, 1 ≤ k ∧ k ≤ 13 ∧ u = k * (c.fullBitUs + c.remoteTolUs)) →
    1 ≤ usToTicks c u ∧ usToTicks c u ≤ c.modulus - 1) ∧
  (c.bit0Us : Int) + c.sensorTolUs < c.bit1Us - c.sensorTolUs ∧
  (c.halfBitUs : Int) + c.remoteTolUs < c.fullBitUs - c.remoteTolUs ∧
  c.respMinUs ≤ c.respMaxUs

/-! ## Effects in closed form -/

/-- A row of R160's table for the four states with one window: its bounds in µs and the state on a match. -/
def phaseRow (c : Config) : SState → Option (Nat × Nat × SState)
  | .awaitAck => some (c.respMinUs - c.sensorTolUs, c.respMaxUs + c.sensorTolUs, .ackPhase)
  | .ackPhase => some (c.ackUs - c.sensorTolUs, c.ackUs + c.sensorTolUs, .awaitBitStart)
  | .awaitBitStart => some (c.dstartUs - c.sensorTolUs, c.dstartUs + c.sensorTolUs, .awaitBit)
  | .awaitBit => some (c.bitlowUs - c.sensorTolUs, c.bitlowUs + c.sensorTolUs, .bitPhase)
  | .idle | .requesting | .bitPhase | .ready => none

/-- The effect of an abort from a state with S_DRV = 0, with its trace entry (R168). -/
def State.aborted (s : State) (e : TraceEntry) : State :=
  { s with
    sensor := { s.sensor with state := .idle, acc := 0, cnt := 0 }
    scap := { s.scap with en := false, pf := false }
    ocS := { s.ocS with oca := false, ocf := false }
    trace := s.trace ++ [e] }

/-- The effect of frame_reset() (R205). -/
def State.frameCleared (s : State) : State :=
  { s with
    remote := { s.remote with acc := 0, cnt := 0, sub := .midOne }
    rcap := { s.rcap with pol := if s.remote.inv then .rising else .falling }
    ocR := { s.ocR with oca := false, ocf := false } }

/-- Under eager dispatch with nothing pending, `EV.SLINE v` brings an armed sensor edge (R141, R142). -/
abbrev State.SeesSensorEdge (s : State) (v : Level) : Prop :=
  s.cfg.irqLatencyFree = false ∧ s.highestPending = none ∧ s.scap.en = true ∧
  (v && !s.pin.drv) ≠ s.pin.line ∧ edgeTo (v && !s.pin.drv) = s.scap.pol

/-- The lines, SICR and S_PHASE after that edge has been latched and its handler has taken it (R142, R166). -/
def State.withSensorEdge (s : State) (v : Level) : State :=
  { s with
    result := none
    pin := { env := v, drv := s.pin.drv, line := v && !s.pin.drv }
    scap := { s.scap with icr := s.cnt }
    sensor := { s.sensor with phase := s.cnt } }

/-- Under eager dispatch with nothing pending, `EV.RLINE v` brings an armed remote edge (R143). -/
abbrev State.SeesRemoteEdge (s : State) (v : Level) : Prop :=
  s.cfg.irqLatencyFree = false ∧ s.highestPending = none ∧ s.rcap.en = true ∧
  v ≠ s.rLine ∧ edgeTo v = s.rcap.pol

/-- The line, RICR, RPOL and R_PHASE after that edge has been latched and its handler has taken it (R143, R213,
R216). -/
def State.withRemoteEdge (s : State) (v : Level) : State :=
  { s with
    result := none
    rLine := v
    rcap := { s.rcap with icr := s.cnt, pol := s.rcap.pol.flip }
    remote := { s.remote with phase := s.cnt } }

/-- `t` has the same registers as `s`; OUT and TRACE may differ. -/
def State.SameRegisters (s t : State) : Prop :=
  t = { s with out := t.out, trace := t.trace }

/-! ## Sequences -/

/-- The state after `n` words `EV.TICK` from `s`, where each answers a next state. -/
def afterTicks : Nat → State → State
  | 0, s => s
  | n + 1, s =>
    match exec .evTick s with
    | .next t => afterTicks n t
    | .fault _ => s
    | .refused _ => s

/-- The sensor's handler on captures at the Ticks of a list, in order. -/
def sensorEdges : List Nat → State → State
  | [], s => s
  | t :: ts, s => sensorEdges ts (sensorCapture { s with scap := { s.scap with icr := t } })

/-- The remote's handler on captures at the Ticks of a list, in order. -/
def remoteEdges : List Nat → State → Except RefuseReason State
  | [], s => .ok s
  | t :: ts, s =>
    match remoteCapture { s with rcap := { s.rcap with icr := t } } with
    | .ok u => remoteEdges ts u
    | .error e => .error e

/-- The captured Ticks of the last `k` bits of a sensor frame, from the falling edge at `last`: for each bit a rising edge
after a bit low, and a falling edge after the high of that bit (R181). -/
def SensorBits (c : Config) (frame : BitVec 40) : Nat → Nat → List Nat → Prop
  | 0, _, ts => ts = []
  | k + 1, last, ts => ∃ r f rest, ts = r :: f :: rest ∧ winLow c (elapsed c r last) = true ∧
      bitOfHigh c (elapsed c f r) = some (frame.getLsbD k) ∧ SensorBits c frame k f rest

/-- The captured Ticks of the last `k` bits of a biphase frame, from the middle edge of the bit `prev` at `last`: a bit
equal to the one before it takes two short intervals, another bit one long interval (R202, R227). -/
def BiphaseBits (c : Config) (m : Message) : Nat → Bool → Nat → List Nat → Prop
  | 0, _, _, ts => ts = []
  | k + 1, prev, last, ts =>
    (m.getLsbD k = prev ∧ ∃ h f rest, ts = h :: f :: rest ∧ classify c (elapsed c h last) = .short ∧
      classify c (elapsed c f h) = .short ∧ BiphaseBits c m k (m.getLsbD k) f rest) ∨
    (m.getLsbD k ≠ prev ∧ ∃ f rest, ts = f :: rest ∧ classify c (elapsed c f last) = .long ∧
      BiphaseBits c m k (m.getLsbD k) f rest)

end Sys2Proof.Machine
end

