-- ==== Sys2Proof/Certificates/Slice0/Obligations.lean ====
section
/-! DEFINITION. The statements for the provers. `State.Settled` is the premise of every statement about one operation:
no source waits for a dispatch that eager dispatch would already have run (R261); the invariant says that every step
keeps it. -/

open Sys2Proof Sys2Proof.Machine

/-! ## Reset, configuration, words -/

/-- R292: every register, output and model-only item at its reset value, under every configuration; `State.reset` is the
reset state of the reference configuration with no stimulus offered (log 1, log 2, the model's choice). -/
def Obligations.ResetLeavesEveryRegisterAtItsValue : Prop :=
  State.reset = State.resetWith .reference [] ∧
  ∀ (c : Config) (x : List Stimulus),
    let s := State.resetWith c x
    (s.cnt = 0 ∧ s.scap.icr = 0 ∧ s.rcap.icr = 0 ∧ s.sensor.phase = 0 ∧ s.remote.phase = 0) ∧
    (s.ocS.ocr = 0 ∧ s.ocR.ocr = 0 ∧ s.ocS.oca = false ∧ s.ocR.oca = false ∧ s.ocS.ocf = false ∧ s.ocR.ocf = false) ∧
    (s.scap.en = false ∧ s.rcap.en = false ∧ s.scap.pf = false ∧ s.rcap.pf = false ∧
      s.scap.pol = .falling ∧ s.rcap.pol = .falling) ∧
    (s.pin.env = true ∧ s.pin.drv = false ∧ s.pin.line = true ∧ s.rLine = true) ∧
    (s.sensor.state = .idle ∧ s.sensor.acc = 0 ∧ s.sensor.cnt = 0 ∧ s.sensor.temp = 0 ∧ s.sensor.hum = 0) ∧
    (s.remote.initd = false ∧ s.remote.en = false ∧ s.remote.inv = false ∧ s.remote.sub = .midOne ∧
      s.remote.acc = 0 ∧ s.remote.cnt = 0) ∧
    (s.out = [] ∧ s.trace = [] ∧ s.refused = false ∧ s.ovrS = 0 ∧ s.ovrR = 0)

/-- R290: from any state, `EV.RESET` answers the reset state of the same configuration; the stimuli to come are no state
of the block and stay. -/
def Obligations.EvResetAnswersTheResetState : Prop :=
  ∀ s : State, decode s.cfg 0x8F00000000#40 = .ok .evReset ∧
    exec .evReset s = .next (State.resetWith s.cfg s.input)

/-- The reset state meets every invariant. -/
def Obligations.ResetMeetsTheInvariants : Prop :=
  ∀ (c : Config) (x : List Stimulus), (State.resetWith c x).Inv

/-- R12: the check of a configuration is WF1 to WF6, and a configuration that fails it gets no run. -/
def Obligations.IllFormedConfigurationGetsNoRun : Prop :=
  ∀ s : State, (s.cfg.wf = true ↔ WellFormedConfiguration s.cfg) ∧
    (¬WellFormedConfiguration s.cfg → step s = .refused .illFormedConfiguration)

/-- Under a well-formed configuration every step answers a next state: nothing traps and nothing stops (R250, R276). -/
def Obligations.EveryStepAnswersANextState : Prop :=
  ∀ s : State, s.cfg.wf = true → ∃ t, step s = .next t

/-- R17, R260: a step whose stimulus is a word that decodes runs the decoded operation on the state without the
stimulus. -/
def Obligations.StepRunsTheDecodedOperation : Prop :=
  ∀ (s : State) (w : CommandWord) (rest : List Stimulus) (i : Instr),
    s.cfg.wf = true → s.input = .word w :: rest → decode s.cfg w = .ok i →
    step s = exec i { s with input := rest }

/-- R110: exactly the illegal words are refused; a refused word sets REFUSED, answers no result word and changes nothing
else of the block (the stimulus is consumed); every other word runs the operation it decodes to. -/
def Obligations.ExactlyTheIllegalWordsAreRefused : Prop :=
  ∀ (s : State) (w : CommandWord) (rest : List Stimulus), s.cfg.wf = true → s.input = .word w :: rest →
    (IllegalWord s.cfg w → step s = .next { s with input := rest, refused := true, result := none }) ∧
    (¬IllegalWord s.cfg w → ∃ i, decode s.cfg w = .ok i ∧ step s = exec i { s with input := rest })

/-- Words written out from R95 and R114 decode to the operation they stand for. -/
def Obligations.WrittenWordsDecode : Prop :=
  decode .reference 0x1000000000#40 = .ok .sStart ∧
  decode .reference 0x02000AFFFA#40 = .ok (.tbElapsed 10 65530) ∧
  decode .reference 0x29394C0000#40 = .ok (.rAddr 0x394C) ∧
  decode .reference 0x8100010000#40 = .ok (.evSline true) ∧
  decode .reference 0x0303790000#40 = .ok (.tbT2us 889) ∧
  decode .reference 0x04000003E8#40 = .ok (.tbUs2t 1000) ∧
  decode .reference 0x2000010000#40 = .ok (.rInit true) ∧
  decode .reference 0x8200000000#40 = .ok (.evRline false) ∧
  decode .reference 0x0000000000#40 = .error .reservedOpcode ∧
  decode .reference 0x1000000001#40 = .error .reservedField

/-- Decoding the encoding of a well-formed operation gives it back, for every operation and every operand. -/
def Obligations.DecodeOfEncodeIsTheOperation : Prop :=
  ∀ (c : Config) (i : Instr), i.wf c = true → decode c (encode i) = .ok i

/-- Every legal word is the encoding of the one well-formed operation it decodes to: no bit is ignored. -/
def Obligations.EncodeOfDecodeIsTheWord : Prop :=
  ∀ (c : Config) (w : CommandWord) (i : Instr), decode c w = .ok i → encode i = w ∧ i.wf c = true

/-- R113: the three pseudo-instructions expand into these words. -/
def Obligations.PseudoInstructionsExpand : Prop :=
  ∀ n : Nat,
    assembleLines [.wait n] = List.replicate n 0x8000000000#40 ∧
    assembleLines [.slevel false n] = 0x8100000000#40 :: List.replicate n 0x8000000000#40 ∧
    assembleLines [.slevel true n] = 0x8100010000#40 :: List.replicate n 0x8000000000#40 ∧
    assembleLines [.rlevel false n] = 0x8200000000#40 :: List.replicate n 0x8000000000#40 ∧
    assembleLines [.rlevel true n] = 0x8200010000#40 :: List.replicate n 0x8000000000#40

/-! ## Timebase -/

/-- R145. -/
def Obligations.RdclkAnswersTheCounter : Prop :=
  ∀ s : State, s.Settled →
    decode s.cfg 0x0100000000#40 = .ok .tbRdclk ∧
    exec .tbRdclk s = .next { s with result := some (BitVec.ofNat 32 s.cnt) }

/-- R146, R122, R123: the result is the Duration of the wrapped integer difference; a tick operand at or above MODULUS is
refused. Where the exact Duration does not fit the result word the word is a free value and the operation completes all
the same (log 8). -/
def Obligations.ElapsedAnswersTheDuration : Prop :=
  ∀ (s : State) (later earlier : Operand), s.Settled →
    encode (.tbElapsed later earlier) = 0x02#8 ++ later ++ earlier ∧
    (later.toNat < s.cfg.modulus ∧ earlier.toNat < s.cfg.modulus →
      ∃ r : ResultWord, exec (.tbElapsed later earlier) s = .next { s with result := some r } ∧
        ∀ (n d : Nat), (n : Int) = ((later.toNat : Int) - earlier.toNat + s.cfg.modulus) % s.cfg.modulus →
          d = 1000000 * (n * s.cfg.prescaler) / s.cfg.fCpuHz → d < 2 ^ 32 → r.toNat = d) ∧
    (s.cfg.modulus ≤ later.toNat ∨ s.cfg.modulus ≤ earlier.toNat →
      exec (.tbElapsed later earlier) s = .next { s with refused := true, result := none })

/-- R147, R123: ticks to µs, rounding down. Where the exact number does not fit the result word the word is a free value
(log 8). -/
def Obligations.T2usAnswersMicroseconds : Prop :=
  ∀ (s : State) (ticks : Operand), s.Settled →
    encode (.tbT2us ticks) = 0x03#8 ++ ticks ++ 0#16 ∧
    ∃ r : ResultWord, exec (.tbT2us ticks) s = .next { s with result := some r } ∧
      ∀ d : Nat, d = 1000000 * (ticks.toNat * s.cfg.prescaler) / s.cfg.fCpuHz → d < 2 ^ 32 → r.toNat = d

/-- R148, R124: µs to ticks, rounding up, saturating at 2^32 - 1: the result is the least number of ticks that lasts at
least the operand, or 2^32 - 1. -/
def Obligations.Us2tAnswersTicks : Prop :=
  ∀ (s : State) (us : BitVec 32), s.Settled → s.cfg.wf = true →
    encode (.tbUs2t us) = 0x04#8 ++ us.extractLsb' 16 16 ++ us.extractLsb' 0 16 ∧
    ∃ (r : ResultWord) (t : Nat), exec (.tbUs2t us) s = .next { s with result := some r } ∧
      us.toNat * s.cfg.fCpuHz ≤ 1000000 * (t * s.cfg.prescaler) ∧
      (∀ t' : Nat, us.toNat * s.cfg.fCpuHz ≤ 1000000 * (t' * s.cfg.prescaler) → t ≤ t') ∧
      r.toNat = min t (2 ^ 32 - 1)

/-- R122, R125: the interval between a Tick and the Tick `d` ticks later reads as `d` modulo MODULUS: exactly `d` across a
wrap, aliased from MODULUS on. -/
def Obligations.IntervalReadsModuloTheCounter : Prop :=
  ∀ (c : Config) (a d : Nat), a < c.modulus → elapsedTicks c (addTicks c a d) a = d % c.modulus

/-- R140 up to its dispatch: the counter advances by one modulo MODULUS and each armed channel that it reaches disarms and
becomes pending. This is the whole step when no source is pending after it, and in the latency variant always. -/
def Obligations.TickCountsAndCompares : Prop :=
  ∀ (s t : State) (n : Nat), n = (s.cnt + 1) % s.cfg.modulus →
    t = { s with
          result := none
          cnt := n
          ocS := if s.ocS.oca = true ∧ s.ocS.ocr = n then { s.ocS with oca := false, ocf := true } else s.ocS
          ocR := if s.ocR.oca = true ∧ s.ocR.ocr = n then { s.ocR with oca := false, ocf := true } else s.ocR } →
    t.Settled → exec .evTick s = .next t

/-- R133, in the latency variant, where no handler re-arms the channel: a channel armed by `arm` is still armed and not
pending after every smaller number of ticks, and pending after exactly us_to_ticks of its delay. -/
def Obligations.ChannelFiresOnTheArmedTick : Prop :=
  ∀ (s a : State) (ch : Channel) (u k : Nat), s.cfg.irqLatencyFree = true → s.cnt < s.cfg.modulus →
    arm ch u s = .ok a →
    (k < usToTicks s.cfg u →
      ((afterTicks k a).channel ch).oca = true ∧ ((afterTicks k a).channel ch).ocf = false) ∧
    (k = usToTicks s.cfg u →
      ((afterTicks k a).channel ch).oca = false ∧ ((afterTicks k a).channel ch).ocf = true)

/-! ## Sensor decoder: host operations -/

/-- R163: accepted from Idle when the remote decoder does not hold a shared capture channel; ignored otherwise. -/
def Obligations.StartAcceptedOrIgnored : Prop :=
  ∀ s : State, s.cfg.wf = true → s.Settled →
    decode s.cfg 0x1000000000#40 = .ok .sStart ∧
    (s.sensor.state = .idle ∧ ¬(s.cfg.sharedCapture = true ∧ s.remote.en = true) →
      exec .sStart s = .next { s with
        result := some 1
        sensor := { s.sensor with state := .requesting, acc := 0, cnt := 0 }
        scap := { s.scap with en := false, pf := false }
        pin := { s.pin with drv := true, line := false }
        ocS := { ocr := (s.cnt + usToTicks s.cfg s.cfg.requestUs) % s.cfg.modulus, oca := true, ocf := false }
        out := s.out ++ [.sdrive true] }) ∧
    (s.sensor.state ≠ .idle ∨ (s.cfg.sharedCapture = true ∧ s.remote.en = true) →
      exec .sStart s = .next { s with result := some 0 })

/-- R173. -/
def Obligations.PollAnswersTheStateClass : Prop :=
  ∀ s : State, s.Settled →
    decode s.cfg 0x1100000000#40 = .ok .sPoll ∧
    exec .sPoll s = .next { s with
      result := some (if s.sensor.state = .idle then 0 else if s.sensor.state = .ready then 2 else 1) }

/-- R174: the last published temperature as two's complement in bits 15:0, with Ready consumed to Idle and a Busy state
left alone. -/
def Obligations.RdtempAnswersAndConsumes : Prop :=
  ∀ s : State, s.Settled → -32768 ≤ s.sensor.temp → s.sensor.temp < 32768 →
    decode s.cfg 0x1200000000#40 = .ok .sRdtemp ∧
    ∃ r : ResultWord,
      exec .sRdtemp s = .next { s with
        result := some r
        sensor := { s.sensor with state := if s.sensor.state = .ready then .idle else s.sensor.state } } ∧
      (r.toNat : Int) = s.sensor.temp % 65536

/-- R175: the published humidity, with the same consumption. -/
def Obligations.RdhumAnswersAndConsumes : Prop :=
  ∀ s : State, s.Settled →
    decode s.cfg 0x1300000000#40 = .ok .sRdhum ∧
    ∃ r : ResultWord,
      exec .sRdhum s = .next { s with
        result := some r
        sensor := { s.sensor with state := if s.sensor.state = .ready then .idle else s.sensor.state } } ∧
      r.toNat = s.sensor.hum.toNat

/-! ## Sensor decoder: line and handlers -/

/-- R141, R142: the sensor's level reaches the observed line unless the host drives it low. Where that is no armed edge
nothing else happens. -/
def Obligations.SensorLevelWithoutACapture : Prop :=
  ∀ (s : State) (v : Level), s.Settled →
    ¬((v && !s.pin.drv) ≠ s.pin.line ∧ s.scap.en = true ∧ edgeTo (v && !s.pin.drv) = s.scap.pol) →
    exec (.evSline v) s = .next { s with
      result := none, pin := { env := v, drv := s.pin.drv, line := v && !s.pin.drv } }

/-- R142, R144 in the latency variant: an armed edge latches CNT into SICR and sets SCAP_PF; one that finds SCAP_PF set
overwrites the latched Tick and is counted and traced. -/
def Obligations.SensorEdgeIsLatched : Prop :=
  ∀ (s : State) (v : Level), s.cfg.irqLatencyFree = true → s.scap.en = true →
    (v && !s.pin.drv) ≠ s.pin.line → edgeTo (v && !s.pin.drv) = s.scap.pol →
    exec (.evSline v) s = .next { s with
      result := none
      pin := { env := v, drv := s.pin.drv, line := v && !s.pin.drv }
      scap := { s.scap with icr := s.cnt, pf := true }
      ovrS := if s.scap.pf = true then s.ovrS + 1 else s.ovrS
      trace := if s.scap.pf = true then s.trace ++ [.captureOverrun .S] else s.trace }

/-- R164, the end of the request pulse, on the tick that reaches OCR_S: the line is released with capture off, the tick is
the phase-start, the falling edge is armed, and the watchdog runs. -/
def Obligations.RequestEndsInListening : Prop :=
  ∀ (s : State) (n : Nat), s.cfg.wf = true → s.cfg.irqLatencyFree = false → s.highestPending = none → s.SensorInv →
    n = (s.cnt + 1) % s.cfg.modulus →
    s.sensor.state = .requesting → s.ocS.oca = true → s.ocS.ocr = n → ¬(s.ocR.oca = true ∧ s.ocR.ocr = n) →
    exec .evTick s = .next { s with
      result := none
      cnt := n
      sensor := { s.sensor with state := .awaitAck, phase := n }
      scap := { s.scap with pol := .falling, pf := false, en := true }
      pin := { env := s.pin.env, drv := false, line := s.pin.env }
      ocS := { ocr := (n + usToTicks s.cfg s.cfg.sensorWatchdogUs) % s.cfg.modulus, oca := true, ocf := false }
      out := s.out ++ [.sdrive false] }

/-- R164, R168: the watchdog in each of the five capturing states aborts to Idle with nothing published. -/
def Obligations.WatchdogAborts : Prop :=
  ∀ (s : State) (n : Nat), s.cfg.irqLatencyFree = false → s.highestPending = none → s.SensorInv →
    n = (s.cnt + 1) % s.cfg.modulus →
    s.sensor.state ≠ .idle → s.sensor.state ≠ .requesting → s.sensor.state ≠ .ready →
    s.ocS.oca = true → s.ocS.ocr = n → ¬(s.ocR.oca = true ∧ s.ocR.ocr = n) →
    exec .evTick s = .next (({ s with result := none, cnt := n } : State).aborted .sAbortTimeout)

/-- R167, R169, R170, R171, R162: a captured interval inside the window of its state (both bounds included) advances the
state and toggles SPOL; one outside it aborts. -/
def Obligations.PhaseWindowsAdvanceOrAbort : Prop :=
  ∀ (s : State) (v : Level) (lo hi d : Nat) (next : SState), s.SeesSensorEdge v → s.SensorInv →
    phaseRow s.cfg s.sensor.state = some (lo, hi, next) → d = elapsed s.cfg s.cnt s.sensor.phase →
    (lo ≤ d ∧ d ≤ hi →
      exec (.evSline v) s = .next { s.withSensorEdge v with
        sensor := { (s.withSensorEdge v).sensor with state := next }
        scap := { (s.withSensorEdge v).scap with pol := s.scap.pol.flip } }) ∧
    (¬(lo ≤ d ∧ d ≤ hi) →
      exec (.evSline v) s = .next ((s.withSensorEdge v).aborted .sAbortPulse))

/-- R172 for a bit before the 40th: an interval in the window of 0 or of 1 appends that bit at bit 0 and waits for the next
bit; one in neither window aborts. -/
def Obligations.BitIsAppendedOrAborts : Prop :=
  ∀ (s : State) (v : Level) (d : Nat), s.cfg.wf = true → s.SeesSensorEdge v → s.SensorInv →
    s.sensor.state = .bitPhase → d = elapsed s.cfg s.cnt s.sensor.phase →
    (∀ b : Bool,
      (if b then s.cfg.bit1Us - s.cfg.sensorTolUs ≤ d ∧ d ≤ s.cfg.bit1Us + s.cfg.sensorTolUs
        else s.cfg.bit0Us - s.cfg.sensorTolUs ≤ d ∧ d ≤ s.cfg.bit0Us + s.cfg.sensorTolUs) →
      s.sensor.cnt.toNat < 39 →
      exec (.evSline v) s = .next { s.withSensorEdge v with
        sensor := { (s.withSensorEdge v).sensor with
          state := .awaitBit, acc := (s.sensor.acc <<< 1) ||| (if b then 1 else 0), cnt := s.sensor.cnt + 1 }
        scap := { (s.withSensorEdge v).scap with pol := s.scap.pol.flip } }) ∧
    (¬(s.cfg.bit0Us - s.cfg.sensorTolUs ≤ d ∧ d ≤ s.cfg.bit0Us + s.cfg.sensorTolUs) →
      ¬(s.cfg.bit1Us - s.cfg.sensorTolUs ≤ d ∧ d ≤ s.cfg.bit1Us + s.cfg.sensorTolUs) →
      exec (.evSline v) s = .next ((s.withSensorEdge v).aborted .sAbortPulse))

/-- R176, R177, R178: the 40th bit ends the frame in its step. With the right checksum the reading is published, the
decoder is Ready, its capture off and its watchdog cancelled; with a wrong one it aborts and the old reading stays. -/
def Obligations.FortiethBitPublishesOrRejects : Prop :=
  ∀ (s : State) (v b : Bool) (d : Nat) (a : BitVec 40), s.cfg.wf = true → s.SeesSensorEdge v → s.SensorInv →
    s.sensor.state = .bitPhase → s.sensor.cnt.toNat = 39 → d = elapsed s.cfg s.cnt s.sensor.phase →
    (if b then s.cfg.bit1Us - s.cfg.sensorTolUs ≤ d ∧ d ≤ s.cfg.bit1Us + s.cfg.sensorTolUs
      else s.cfg.bit0Us - s.cfg.sensorTolUs ≤ d ∧ d ≤ s.cfg.bit0Us + s.cfg.sensorTolUs) →
    a = (s.sensor.acc <<< 1) ||| (if b then 1 else 0) →
    ((a.extractLsb' 0 8).toNat = ((a.extractLsb' 32 8).toNat + (a.extractLsb' 24 8).toNat +
        (a.extractLsb' 16 8).toNat + (a.extractLsb' 8 8).toNat) % 256 →
      exec (.evSline v) s = .next { s.withSensorEdge v with
        sensor := {
          state := .ready, phase := s.cnt, acc := 0, cnt := 0
          hum := a.extractLsb' 24 16
          temp := if a.getLsbD 23 then -((a.extractLsb' 8 15).toNat : Int) else (a.extractLsb' 8 15).toNat }
        scap := { (s.withSensorEdge v).scap with pol := s.scap.pol.flip, en := false, pf := false }
        ocS := { s.ocS with oca := false, ocf := false }
        trace := s.trace ++ [.sReady (a.extractLsb' 24 16) (a.extractLsb' 8 16)] }) ∧
    ((a.extractLsb' 0 8).toNat ≠ ((a.extractLsb' 32 8).toNat + (a.extractLsb' 24 8).toNat +
        (a.extractLsb' 16 8).toNat + (a.extractLsb' 8 8).toNat) % 256 →
      exec (.evSline v) s = .next (({ s.withSensorEdge v with
        scap := { (s.withSensorEdge v).scap with pol := s.scap.pol.flip } } : State).aborted .sAbortChecksum))

/-- R181, R172, R178 (the source's round trip): captures whose intervals fit the reply of a 40-bit frame end in Ready with
exactly that frame's humidity and temperature when its checksum is right, and in Idle with the old reading when it is
not. -/
def Obligations.SensorReplyRoundTrip : Prop :=
  ∀ (s u : State) (frame : BitVec 40) (t1 t2 t3 : Nat) (ts : List Nat),
    s.sensor.state = .awaitAck → s.sensor.acc = 0 → s.sensor.cnt = 0 → s.pin.drv = false →
    winResp s.cfg (elapsed s.cfg t1 s.sensor.phase) = true → winAck s.cfg (elapsed s.cfg t2 t1) = true →
    winDstart s.cfg (elapsed s.cfg t3 t2) = true → SensorBits s.cfg frame 40 t3 ts →
    u = sensorEdges (t1 :: t2 :: t3 :: ts) s →
    u.sensor.acc = 0 ∧ u.sensor.cnt = 0 ∧ u.scap.en = false ∧ u.ocS.oca = false ∧ u.out = s.out ∧
    (checksumOk frame = true →
      u.sensor.state = .ready ∧ u.sensor.hum = frame.extractLsb' 24 16 ∧
      u.sensor.temp = decodeTemp (frame.extractLsb' 8 16) ∧
      u.trace = s.trace ++ [.sReady (frame.extractLsb' 24 16) (frame.extractLsb' 8 16)]) ∧
    (checksumOk frame = false →
      u.sensor.state = .idle ∧ u.sensor.hum = s.sensor.hum ∧ u.sensor.temp = s.sensor.temp ∧
      u.trace = s.trace ++ [.sAbortChecksum])

/-- R163, R133, R164: after an accepted start the request pulse lasts exactly its ticks, whatever the remote decoder's
guard does meanwhile, and then the decoder listens. -/
def Obligations.RequestPulseLastsItsTicks : Prop :=
  ∀ (s a : State) (k : Nat), s.cfg.wf = true → s.cfg.irqLatencyFree = false → s.Inv →
    exec .sStart s = .next a → a.result = some 1 →
    (k < usToTicks s.cfg s.cfg.requestUs →
      (afterTicks k a).sensor.state = .requesting ∧ (afterTicks k a).pin.drv = true) ∧
    (k = usToTicks s.cfg s.cfg.requestUs →
      (afterTicks k a).sensor.state = .awaitAck ∧ (afterTicks k a).pin.drv = false ∧
      (afterTicks k a).sensor.phase = (s.cnt + k) % s.cfg.modulus)

/-! ## Remote decoder: host operations -/

/-- R210, R205. -/
def Obligations.InitStopsAndReadiesTheDecoder : Prop :=
  ∀ (s : State) (p : Bool), s.Settled →
    encode (.rInit p) = 0x20#8 ++ (if p then 1#16 else 0#16) ++ 0#16 ∧
    exec (.rInit p) s = .next { s with
      result := some 0
      remote := { s.remote with initd := true, en := false, inv := p, sub := .midOne, acc := 0, cnt := 0 }
      rcap := { s.rcap with en := false, pf := false, pol := if p then .rising else .falling }
      ocR := { s.ocR with oca := false, ocf := false } }

/-- R211, its four cases. -/
def Obligations.EnableCases : Prop :=
  ∀ s : State, s.Settled →
    decode s.cfg 0x2100000000#40 = .ok .rEnable ∧
    (s.remote.initd = false → exec .rEnable s = .next { s with result := some 0 }) ∧
    (s.remote.initd = true → s.remote.en = true → exec .rEnable s = .next { s with result := some 1 }) ∧
    (s.remote.initd = true → s.remote.en = false → s.cfg.sharedCapture = true → s.sensor.state.busy = true →
      exec .rEnable s = .next { s with result := some 0 }) ∧
    (s.remote.initd = true → s.remote.en = false → ¬(s.cfg.sharedCapture = true ∧ s.sensor.state.busy = true) →
      exec .rEnable s = .next { s.frameCleared with
        result := some 1
        remote := { s.frameCleared.remote with en := true }
        rcap := { s.frameCleared.rcap with en := true, pf := false } })

/-- R212: the frame in progress or the Error wait is discarded; R_INITD and R_INV are kept. -/
def Obligations.DisableDiscardsTheFrame : Prop :=
  ∀ s : State, s.Settled →
    decode s.cfg 0x2200000000#40 = .ok .rDisable ∧
    exec .rDisable s = .next { s.frameCleared with
      result := some 0
      remote := { s.frameCleared.remote with en := false }
      rcap := { s.frameCleared.rcap with en := false, pf := false } }

/-- R222, R223, R224: toggle, address and command of a message; no state is written. -/
def Obligations.ExtractorsAnswerTheirFields : Prop :=
  ∀ (s : State) (m : Message), s.Settled →
    (encode (.rToggle m) = 0x28#8 ++ m.setWidth 16 ++ 0#16 ∧
      exec (.rToggle m) s = .next { s with result := some (BitVec.ofNat 32 (m.toNat / 2048 % 2)) }) ∧
    (encode (.rAddr m) = 0x29#8 ++ m.setWidth 16 ++ 0#16 ∧
      exec (.rAddr m) s = .next { s with result := some (BitVec.ofNat 32 (m.toNat / 64 % 32)) }) ∧
    (encode (.rCmd m) = 0x2A#8 ++ m.setWidth 16 ++ 0#16 ∧
      exec (.rCmd m) s = .next { s with result := some (BitVec.ofNat 32 (m.toNat % 64)) })

/-- `R.EXTCMD` (R225): the command with the field bit m[12], inverted or not, at bit 6. The spec marks bit 12 as its own
choice from general knowledge: "The spec's choice is bit 12, inverted". -/
def Obligations.ExtendedCommandAnswer : Prop :=
  ∀ (s : State) (m : Message), s.Settled →
    encode (.rExtcmd m) = 0x2B#8 ++ m.setWidth 16 ++ 0#16 ∧
    exec (.rExtcmd m) s = .next { s with result := some (BitVec.ofNat 32
      (64 * (if s.cfg.extFieldInverted then 1 - m.toNat / 4096 % 2 else m.toNat / 4096 % 2) + m.toNat % 64)) }

/-! ## Remote decoder: line and handlers -/

/-- R143: the receiver's level reaches R_LINE; where that is no armed edge nothing else happens. -/
def Obligations.RemoteLevelWithoutACapture : Prop :=
  ∀ (s : State) (v : Level), s.Settled →
    ¬(v ≠ s.rLine ∧ s.rcap.en = true ∧ edgeTo v = s.rcap.pol) →
    exec (.evRline v) s = .next { s with result := none, rLine := v }

/-- R143, R144 in the latency variant. -/
def Obligations.RemoteEdgeIsLatched : Prop :=
  ∀ (s : State) (v : Level), s.cfg.irqLatencyFree = true → s.rcap.en = true →
    v ≠ s.rLine → edgeTo v = s.rcap.pol →
    exec (.evRline v) s = .next { s with
      result := none
      rLine := v
      rcap := { s.rcap with icr := s.cnt, pf := true }
      ovrR := if s.rcap.pf = true then s.ovrR + 1 else s.ovrR
      trace := if s.rcap.pf = true then s.trace ++ [.captureOverrun .R] else s.trace }

/-- R201: the classes by their bounds, both included. -/
def Obligations.PulseClassesByTheirWindows : Prop :=
  ∀ (c : Config) (d : Nat), c.wf = true →
    (classify c d = .short ↔ c.halfBitUs - c.remoteTolUs ≤ d ∧ d ≤ c.halfBitUs + c.remoteTolUs) ∧
    (classify c d = .long ↔ c.fullBitUs - c.remoteTolUs ≤ d ∧ d ≤ c.fullBitUs + c.remoteTolUs) ∧
    (classify c d = .invalid ↔
      ¬(c.halfBitUs - c.remoteTolUs ≤ d ∧ d ≤ c.halfBitUs + c.remoteTolUs) ∧
      ¬(c.fullBitUs - c.remoteTolUs ≤ d ∧ d ≤ c.fullBitUs + c.remoteTolUs))

/-- The fifteen entries of R202's transition table. The spec marks them as its own inference: "The spec's entries come from
biphase timing". -/
def Obligations.TransitionTableEntries : Prop :=
  (nextSub .startOne .short = .midOne ∧ nextSub .startOne .long = .error ∧ nextSub .startOne .invalid = .error) ∧
  (nextSub .midOne .short = .startOne ∧ nextSub .midOne .long = .midZero ∧ nextSub .midOne .invalid = .error) ∧
  (nextSub .startZero .short = .midZero ∧ nextSub .startZero .long = .error ∧ nextSub .startZero .invalid = .error) ∧
  (nextSub .midZero .short = .startZero ∧ nextSub .midZero .long = .midOne ∧ nextSub .midZero .invalid = .error) ∧
  (nextSub .error .short = .error ∧ nextSub .error .long = .error ∧ nextSub .error .invalid = .error)

/-- R214: the first edge of a frame seeds MidOne and its bit 1, whatever the time before it. -/
def Obligations.FirstEdgeSeedsMidOne : Prop :=
  ∀ (s : State) (v : Level), s.SeesRemoteEdge v → s.remote.cnt = 0 →
    exec (.evRline v) s = .next { s.withRemoteEdge v with
      remote := { (s.withRemoteEdge v).remote with sub := .midOne, acc := 1, cnt := 1 } }

/-- R213, R203, R216: an edge inside a frame whose table entry is not Error moves the sub-state; a Mid state appends its
bit. For every bit but the last. -/
def Obligations.FrameEdgeFollowsTheTable : Prop :=
  ∀ (s : State) (v : Level) (n : RSub), s.SeesRemoteEdge v →
    1 ≤ s.remote.cnt.toNat → s.remote.cnt.toNat ≤ 13 → s.remote.sub ≠ .error →
    n = nextSub s.remote.sub (classify s.cfg (elapsed s.cfg s.cnt s.remote.phase)) →
    (n = .startZero ∨ n = .startOne →
      exec (.evRline v) s = .next { s.withRemoteEdge v with remote := { (s.withRemoteEdge v).remote with sub := n } }) ∧
    (n = .midZero → s.remote.cnt.toNat < 13 →
      exec (.evRline v) s = .next { s.withRemoteEdge v with
        remote := { (s.withRemoteEdge v).remote with sub := n, acc := s.remote.acc <<< 1, cnt := s.remote.cnt + 1 } }) ∧
    (n = .midOne → s.remote.cnt.toNat < 13 →
      exec (.evRline v) s = .next { s.withRemoteEdge v with
        remote := { (s.withRemoteEdge v).remote with
          sub := n, acc := (s.remote.acc <<< 1) ||| 1, cnt := s.remote.cnt + 1 } })

/-- R218, R219: the 14th bit emits the message once and readies the decoder for the next frame, in the same step. -/
def Obligations.FourteenthBitEmitsTheMessage : Prop :=
  ∀ (s : State) (v b : Bool) (m : Message), s.SeesRemoteEdge v → s.remote.cnt.toNat = 13 → s.remote.sub ≠ .error →
    nextSub s.remote.sub (classify s.cfg (elapsed s.cfg s.cnt s.remote.phase)) = (if b then .midOne else .midZero) →
    m = (s.remote.acc <<< 1) ||| (if b then 1 else 0) →
    exec (.evRline v) s = .next { (s.withRemoteEdge v).frameCleared with
      out := s.out ++ [.msg m], trace := s.trace ++ [.rMsg m] }

/-- R217, R204: a table entry Error enters Error, keeps the bits, and arms the guard for the bits still expected. -/
def Obligations.BadIntervalEntersError : Prop :=
  ∀ (s : State) (v : Level) (d : Nat), s.cfg.wf = true → s.SeesRemoteEdge v →
    1 ≤ s.remote.cnt.toNat → s.remote.cnt.toNat ≤ 13 → s.remote.sub ≠ .error →
    d = elapsed s.cfg s.cnt s.remote.phase → nextSub s.remote.sub (classify s.cfg d) = .error →
    exec (.evRline v) s = .next { s.withRemoteEdge v with
      remote := { (s.withRemoteEdge v).remote with sub := .error }
      ocR := {
        ocr := (s.cnt + usToTicks s.cfg ((14 - s.remote.cnt.toNat) * (s.cfg.fullBitUs + s.cfg.remoteTolUs))) %
          s.cfg.modulus
        oca := true
        ocf := false }
      trace := s.trace ++ [.rErrorEnter s.remote.sub (classify s.cfg d) d s.remote.cnt] }

/-- R215: an edge in Error restarts the guard and nothing else of the frame changes. -/
def Obligations.EdgeInErrorRestartsTheGuard : Prop :=
  ∀ (s : State) (v : Level), s.cfg.wf = true → s.SeesRemoteEdge v →
    1 ≤ s.remote.cnt.toNat → s.remote.cnt.toNat ≤ 13 → s.remote.sub = .error →
    exec (.evRline v) s = .next { s.withRemoteEdge v with
      ocR := {
        ocr := (s.cnt + usToTicks s.cfg ((14 - s.remote.cnt.toNat) * (s.cfg.fullBitUs + s.cfg.remoteTolUs))) %
          s.cfg.modulus
        oca := true
        ocf := false } }

/-- R220: the guard in Error resets the frame; R_EN and RCAP_EN stay. -/
def Obligations.GuardResetsTheFrame : Prop :=
  ∀ (s : State) (n : Nat), s.cfg.irqLatencyFree = false → s.highestPending = none →
    n = (s.cnt + 1) % s.cfg.modulus → s.remote.sub = .error → s.ocR.oca = true → s.ocR.ocr = n →
    ¬(s.ocS.oca = true ∧ s.ocS.ocr = n) →
    exec .evTick s = .next { s.frameCleared with
      result := none, cnt := n, trace := s.trace ++ [.rGuardReset] }

/-- R213 to R219 (the source's remote round trip): captures whose intervals are those of a biphase frame that begins with
a 1 emit exactly that message, once, and leave the decoder ready for the next frame. -/
def Obligations.RemoteFrameRoundTrip : Prop :=
  ∀ (s : State) (m : Message) (t : Nat) (ts : List Nat), s.remote.cnt = 0 → m.getLsbD 13 = true →
    BiphaseBits s.cfg m 13 true t ts →
    ∃ u, remoteEdges (t :: ts) s = .ok u ∧ u.out = s.out ++ [.msg m] ∧ u.trace = s.trace ++ [.rMsg m] ∧
      u.remote.cnt = 0 ∧ u.remote.acc = 0 ∧ u.remote.sub = .midOne ∧
      u.rcap.pol = frameStartPolarity s.remote.inv ∧ u.rcap.en = s.rcap.en ∧ u.sensor = s.sensor

/-! ## Dispatch -/

/-- R259, R264: what is pending, and the first pending source in the order S_CAP, R_CAP, S_OC, R_OC. -/
def Obligations.PriorityOfPendingSources : Prop :=
  ∀ s : State, s.highestPending =
    if s.scap.en = true ∧ s.scap.pf = true then some .sCap
    else if s.rcap.en = true ∧ s.rcap.pf = true then some .rCap
    else if s.ocS.ocf = true then some .sOc
    else if s.ocR.ocf = true then some .rOc
    else none

/-- R266: in the latency variant a dispatch step takes the highest-priority pending source, that one only: the source's
pending bit is cleared and its handler runs. With none pending it changes nothing of the block (log 7, the model's
choice). -/
def Obligations.DispatchStepTakesOneSource : Prop :=
  ∀ (s : State) (rest : List Stimulus) (u : State), s.cfg.wf = true → s.cfg.irqLatencyFree = true →
    s.input = .dispatchSlot :: rest → u = { s with input := rest, result := none } →
    (s.highestPending = none → step s = .next u) ∧
    (s.highestPending = some .sCap →
      step s = .next (sensorCapture { u with scap := { u.scap with pf := false } })) ∧
    (∀ t, s.highestPending = some .rCap → remoteCapture { u with rcap := { u.rcap with pf := false } } = .ok t →
      step s = .next t) ∧
    (∀ t, s.highestPending = some .sOc → sensorTimeout { u with ocS := { u.ocS with ocf := false } } = .ok t →
      step s = .next t) ∧
    (∀ t, s.highestPending = some .rOc → remoteTimeout { u with ocR := { u.ocR with ocf := false } } = .ok t →
      step s = .next t)

/-- R86: a sensor handler and a remote handler commute in every register: taken in either order they leave the same
registers, line levels and model-only items but OUT and TRACE. Of OUT and TRACE the statement says nothing: the order of
their entries follows the order of the handlers (log 13, DEDUCED, the model's reading). -/
def Obligations.HandlersOfTheTwoDecodersCommute : Prop :=
  ∀ (s a b ab ba : State) (x y : Source), (x = .sCap ∨ x = .sOc) → (y = .rCap ∨ y = .rOc) →
    take x s = .ok a → take y a = .ok ab → take y s = .ok b → take x b = .ok ba → ab.SameRegisters ba

/-- R261, R264: when one tick reaches both channels under eager dispatch, the sensor's handler and then the remote's run in
that step, and nothing is pending after it. -/
def Obligations.OneTickFiresBothChannels : Prop :=
  ∀ (s t : State) (n : Nat), s.cfg.wf = true → s.Inv → s.cfg.irqLatencyFree = false →
    n = (s.cnt + 1) % s.cfg.modulus →
    s.ocS.oca = true → s.ocS.ocr = n → s.ocR.oca = true → s.ocR.ocr = n →
    t = { s with
          result := none, cnt := n
          ocS := { s.ocS with oca := false, ocf := true }, ocR := { s.ocR with oca := false, ocf := true } } →
    ∃ a b, take .sOc t = .ok a ∧ take .rOc a = .ok b ∧ exec .evTick s = .next b ∧ b.highestPending = none

/-! ## The whole machine -/

/-- Every step keeps the invariants: Ticks in range, the wired-and sensor line, R47, R54, R216's line tracking, the shared
capture channel's exclusion, and nothing left pending under eager dispatch. -/
def Obligations.EveryStepKeepsTheInvariants : Prop :=
  ∀ s t : State, s.Inv → step s = .next t → t.Inv

/-- R57: no step changes the configuration. -/
def Obligations.NoStepChangesTheConfiguration : Prop :=
  ∀ s t : State, step s = .next t → t.cfg = s.cfg

/-- R19, R58, R59: only a reset shortens OUT or TRACE or clears REFUSED. -/
def Obligations.OutputsGrowAndRefusedSticks : Prop :=
  ∀ s t : State, step s = .next t → s.NoResetNext →
    s.out <+: t.out ∧ s.trace <+: t.trace ∧ (s.refused = true → t.refused = true)

/-- R110, R131, R258: from a state that meets the invariants, only an illegal word sets REFUSED: no delay is refused. -/
def Obligations.OnlyIllegalWordsAreRefused : Prop :=
  ∀ s t : State, s.Inv → s.refused = false → step s = .next t → t.refused = true →
    ∃ w rest, s.input = .word w :: rest ∧ IllegalWord s.cfg w

/-- R17, R33: only `EV.TICK` and `EV.RESET` move the counter. -/
def Obligations.OnlyTickAndResetMoveTheCounter : Prop :=
  ∀ s t : State, step s = .next t → t.cnt ≠ s.cnt →
    ∃ rest, (s.input = .word 0x8000000000#40 :: rest ∧ t.cnt = (s.cnt + 1) % s.cfg.modulus) ∨
      (s.input = .word 0x8F00000000#40 :: rest ∧ t.cnt = 0)

/-- R144: under eager dispatch no capture is overrun. -/
def Obligations.NoOverrunUnderEagerDispatch : Prop :=
  ∀ s t : State, s.cfg.irqLatencyFree = false → s.Inv → step s = .next t → s.NoResetNext →
    t.ovrS = s.ovrS ∧ t.ovrR = s.ovrR

/-- R46, R178: a step that changes the published reading resets the block or has received a whole frame with a right
checksum, and then publishes exactly that frame's two fields together. -/
def Obligations.ReadingChangesOnlyOnACompleteFrame : Prop :=
  ∀ s t : State, step s = .next t → s.NoResetNext →
    t.sensor.hum ≠ s.sensor.hum ∨ t.sensor.temp ≠ s.sensor.temp →
    s.sensor.state = .bitPhase ∧ s.sensor.cnt.toNat = 39 ∧ t.sensor.state = .ready ∧
    ∃ frame : BitVec 40, checksumOk frame = true ∧ t.sensor.hum = humField frame ∧
      t.sensor.temp = decodeTemp (tempField frame) ∧ ∃ b : Bool, frame = shiftIn40 s.sensor.acc b

/-- R217, R218, R221: a message leaves the block only in the step that appends the 14th bit to thirteen, outside Error, and
its bit 13 is 1. -/
def Obligations.MessageOnlyFromFourteenBits : Prop :=
  ∀ (s t : State) (m : Message), s.Inv → step s = .next t → s.NoResetNext →
    s.out.count (.msg m) < t.out.count (.msg m) →
    s.remote.cnt.toNat = 13 ∧ s.remote.sub ≠ .error ∧ t.remote.cnt = 0 ∧ m.getLsbD 13 = true ∧
      t.out.count (.msg m) = s.out.count (.msg m) + 1 ∧ ∃ b : Bool, m = shiftIn14 s.remote.acc b

/-- R86: the remote decoder's operations and its line leave the sensor decoder, its units and its pin alone, and the
sensor's leave the remote decoder and its units alone. -/
def Obligations.DecodersLeaveEachOtherAlone : Prop :=
  ∀ (s t : State) (i : Instr), s.Settled → exec i s = .next t →
    ((i = .rEnable ∨ i = .rDisable ∨ (∃ p, i = .rInit p) ∨ ∃ v, i = .evRline v) →
      t.sensor = s.sensor ∧ t.scap = s.scap ∧ t.ocS = s.ocS ∧ t.pin = s.pin ∧ t.ovrS = s.ovrS ∧ t.cnt = s.cnt) ∧
    ((i = .sStart ∨ i = .sPoll ∨ i = .sRdtemp ∨ i = .sRdhum ∨ ∃ v, i = .evSline v) →
      t.remote = s.remote ∧ t.rcap = s.rcap ∧ t.ocR = s.ocR ∧ t.rLine = s.rLine ∧ t.ovrR = s.ovrR ∧ t.cnt = s.cnt)
end

