-- ==== Sys2Proof/Laws/State.lean ====
section
/-! SUPPORT. One lemma per field per state update, each true by rfl, so that no proof unfolds a record update. -/

namespace Sys2Proof.Machine

/-! ## emit -/

@[simp] theorem emit_cfg (e : OutEvent) (s : State) : (emit e s).cfg = s.cfg := rfl
@[simp] theorem emit_input (e : OutEvent) (s : State) : (emit e s).input = s.input := rfl
@[simp] theorem emit_result (e : OutEvent) (s : State) : (emit e s).result = s.result := rfl
@[simp] theorem emit_cnt (e : OutEvent) (s : State) : (emit e s).cnt = s.cnt := rfl
@[simp] theorem emit_scap (e : OutEvent) (s : State) : (emit e s).scap = s.scap := rfl
@[simp] theorem emit_rcap (e : OutEvent) (s : State) : (emit e s).rcap = s.rcap := rfl
@[simp] theorem emit_ocS (e : OutEvent) (s : State) : (emit e s).ocS = s.ocS := rfl
@[simp] theorem emit_ocR (e : OutEvent) (s : State) : (emit e s).ocR = s.ocR := rfl
@[simp] theorem emit_pin (e : OutEvent) (s : State) : (emit e s).pin = s.pin := rfl
@[simp] theorem emit_rLine (e : OutEvent) (s : State) : (emit e s).rLine = s.rLine := rfl
@[simp] theorem emit_sensor (e : OutEvent) (s : State) : (emit e s).sensor = s.sensor := rfl
@[simp] theorem emit_remote (e : OutEvent) (s : State) : (emit e s).remote = s.remote := rfl
@[simp] theorem emit_out (e : OutEvent) (s : State) : (emit e s).out = s.out ++ [e] := rfl
@[simp] theorem emit_trace (e : OutEvent) (s : State) : (emit e s).trace = s.trace := rfl
@[simp] theorem emit_refused (e : OutEvent) (s : State) : (emit e s).refused = s.refused := rfl
@[simp] theorem emit_ovrS (e : OutEvent) (s : State) : (emit e s).ovrS = s.ovrS := rfl
@[simp] theorem emit_ovrR (e : OutEvent) (s : State) : (emit e s).ovrR = s.ovrR := rfl

/-! ## record -/

@[simp] theorem record_cfg (t : TraceEntry) (s : State) : (record t s).cfg = s.cfg := rfl
@[simp] theorem record_input (t : TraceEntry) (s : State) : (record t s).input = s.input := rfl
@[simp] theorem record_result (t : TraceEntry) (s : State) : (record t s).result = s.result := rfl
@[simp] theorem record_cnt (t : TraceEntry) (s : State) : (record t s).cnt = s.cnt := rfl
@[simp] theorem record_scap (t : TraceEntry) (s : State) : (record t s).scap = s.scap := rfl
@[simp] theorem record_rcap (t : TraceEntry) (s : State) : (record t s).rcap = s.rcap := rfl
@[simp] theorem record_ocS (t : TraceEntry) (s : State) : (record t s).ocS = s.ocS := rfl
@[simp] theorem record_ocR (t : TraceEntry) (s : State) : (record t s).ocR = s.ocR := rfl
@[simp] theorem record_pin (t : TraceEntry) (s : State) : (record t s).pin = s.pin := rfl
@[simp] theorem record_rLine (t : TraceEntry) (s : State) : (record t s).rLine = s.rLine := rfl
@[simp] theorem record_sensor (t : TraceEntry) (s : State) : (record t s).sensor = s.sensor := rfl
@[simp] theorem record_remote (t : TraceEntry) (s : State) : (record t s).remote = s.remote := rfl
@[simp] theorem record_out (t : TraceEntry) (s : State) : (record t s).out = s.out := rfl
@[simp] theorem record_trace (t : TraceEntry) (s : State) : (record t s).trace = s.trace ++ [t] := rfl
@[simp] theorem record_refused (t : TraceEntry) (s : State) : (record t s).refused = s.refused := rfl
@[simp] theorem record_ovrS (t : TraceEntry) (s : State) : (record t s).ovrS = s.ovrS := rfl
@[simp] theorem record_ovrR (t : TraceEntry) (s : State) : (record t s).ovrR = s.ovrR := rfl

/-! ## refuse -/

@[simp] theorem refuse_cfg (s : State) : (refuse s).cfg = s.cfg := rfl
@[simp] theorem refuse_input (s : State) : (refuse s).input = s.input := rfl
@[simp] theorem refuse_result (s : State) : (refuse s).result = none := rfl
@[simp] theorem refuse_cnt (s : State) : (refuse s).cnt = s.cnt := rfl
@[simp] theorem refuse_scap (s : State) : (refuse s).scap = s.scap := rfl
@[simp] theorem refuse_rcap (s : State) : (refuse s).rcap = s.rcap := rfl
@[simp] theorem refuse_ocS (s : State) : (refuse s).ocS = s.ocS := rfl
@[simp] theorem refuse_ocR (s : State) : (refuse s).ocR = s.ocR := rfl
@[simp] theorem refuse_pin (s : State) : (refuse s).pin = s.pin := rfl
@[simp] theorem refuse_rLine (s : State) : (refuse s).rLine = s.rLine := rfl
@[simp] theorem refuse_sensor (s : State) : (refuse s).sensor = s.sensor := rfl
@[simp] theorem refuse_remote (s : State) : (refuse s).remote = s.remote := rfl
@[simp] theorem refuse_out (s : State) : (refuse s).out = s.out := rfl
@[simp] theorem refuse_trace (s : State) : (refuse s).trace = s.trace := rfl
@[simp] theorem refuse_refused (s : State) : (refuse s).refused = true := rfl
@[simp] theorem refuse_ovrS (s : State) : (refuse s).ovrS = s.ovrS := rfl
@[simp] theorem refuse_ovrR (s : State) : (refuse s).ovrR = s.ovrR := rfl

/-! ## offer -/

@[simp] theorem offer_cfg (w : CommandWord) (s : State) : (offer w s).cfg = s.cfg := rfl
@[simp] theorem offer_input (w : CommandWord) (s : State) : (offer w s).input = .word w :: s.input := rfl
@[simp] theorem offer_result (w : CommandWord) (s : State) : (offer w s).result = s.result := rfl
@[simp] theorem offer_cnt (w : CommandWord) (s : State) : (offer w s).cnt = s.cnt := rfl
@[simp] theorem offer_scap (w : CommandWord) (s : State) : (offer w s).scap = s.scap := rfl
@[simp] theorem offer_rcap (w : CommandWord) (s : State) : (offer w s).rcap = s.rcap := rfl
@[simp] theorem offer_ocS (w : CommandWord) (s : State) : (offer w s).ocS = s.ocS := rfl
@[simp] theorem offer_ocR (w : CommandWord) (s : State) : (offer w s).ocR = s.ocR := rfl
@[simp] theorem offer_pin (w : CommandWord) (s : State) : (offer w s).pin = s.pin := rfl
@[simp] theorem offer_rLine (w : CommandWord) (s : State) : (offer w s).rLine = s.rLine := rfl
@[simp] theorem offer_sensor (w : CommandWord) (s : State) : (offer w s).sensor = s.sensor := rfl
@[simp] theorem offer_remote (w : CommandWord) (s : State) : (offer w s).remote = s.remote := rfl
@[simp] theorem offer_out (w : CommandWord) (s : State) : (offer w s).out = s.out := rfl
@[simp] theorem offer_trace (w : CommandWord) (s : State) : (offer w s).trace = s.trace := rfl
@[simp] theorem offer_refused (w : CommandWord) (s : State) : (offer w s).refused = s.refused := rfl
@[simp] theorem offer_ovrS (w : CommandWord) (s : State) : (offer w s).ovrS = s.ovrS := rfl
@[simp] theorem offer_ovrR (w : CommandWord) (s : State) : (offer w s).ovrR = s.ovrR := rfl

/-! ## setChannel_S -/

@[simp] theorem setChannel_S_cfg (ch : CompareChannel) (s : State) : (s.setChannel .S ch).cfg = s.cfg := rfl
@[simp] theorem setChannel_S_input (ch : CompareChannel) (s : State) : (s.setChannel .S ch).input = s.input := rfl
@[simp] theorem setChannel_S_result (ch : CompareChannel) (s : State) : (s.setChannel .S ch).result = s.result := rfl
@[simp] theorem setChannel_S_cnt (ch : CompareChannel) (s : State) : (s.setChannel .S ch).cnt = s.cnt := rfl
@[simp] theorem setChannel_S_scap (ch : CompareChannel) (s : State) : (s.setChannel .S ch).scap = s.scap := rfl
@[simp] theorem setChannel_S_rcap (ch : CompareChannel) (s : State) : (s.setChannel .S ch).rcap = s.rcap := rfl
@[simp] theorem setChannel_S_ocS (ch : CompareChannel) (s : State) : (s.setChannel .S ch).ocS = ch := rfl
@[simp] theorem setChannel_S_ocR (ch : CompareChannel) (s : State) : (s.setChannel .S ch).ocR = s.ocR := rfl
@[simp] theorem setChannel_S_pin (ch : CompareChannel) (s : State) : (s.setChannel .S ch).pin = s.pin := rfl
@[simp] theorem setChannel_S_rLine (ch : CompareChannel) (s : State) : (s.setChannel .S ch).rLine = s.rLine := rfl
@[simp] theorem setChannel_S_sensor (ch : CompareChannel) (s : State) : (s.setChannel .S ch).sensor = s.sensor := rfl
@[simp] theorem setChannel_S_remote (ch : CompareChannel) (s : State) : (s.setChannel .S ch).remote = s.remote := rfl
@[simp] theorem setChannel_S_out (ch : CompareChannel) (s : State) : (s.setChannel .S ch).out = s.out := rfl
@[simp] theorem setChannel_S_trace (ch : CompareChannel) (s : State) : (s.setChannel .S ch).trace = s.trace := rfl
@[simp] theorem setChannel_S_refused (ch : CompareChannel) (s : State) : (s.setChannel .S ch).refused = s.refused := rfl
@[simp] theorem setChannel_S_ovrS (ch : CompareChannel) (s : State) : (s.setChannel .S ch).ovrS = s.ovrS := rfl
@[simp] theorem setChannel_S_ovrR (ch : CompareChannel) (s : State) : (s.setChannel .S ch).ovrR = s.ovrR := rfl

/-! ## setChannel_R -/

@[simp] theorem setChannel_R_cfg (ch : CompareChannel) (s : State) : (s.setChannel .R ch).cfg = s.cfg := rfl
@[simp] theorem setChannel_R_input (ch : CompareChannel) (s : State) : (s.setChannel .R ch).input = s.input := rfl
@[simp] theorem setChannel_R_result (ch : CompareChannel) (s : State) : (s.setChannel .R ch).result = s.result := rfl
@[simp] theorem setChannel_R_cnt (ch : CompareChannel) (s : State) : (s.setChannel .R ch).cnt = s.cnt := rfl
@[simp] theorem setChannel_R_scap (ch : CompareChannel) (s : State) : (s.setChannel .R ch).scap = s.scap := rfl
@[simp] theorem setChannel_R_rcap (ch : CompareChannel) (s : State) : (s.setChannel .R ch).rcap = s.rcap := rfl
@[simp] theorem setChannel_R_ocS (ch : CompareChannel) (s : State) : (s.setChannel .R ch).ocS = s.ocS := rfl
@[simp] theorem setChannel_R_ocR (ch : CompareChannel) (s : State) : (s.setChannel .R ch).ocR = ch := rfl
@[simp] theorem setChannel_R_pin (ch : CompareChannel) (s : State) : (s.setChannel .R ch).pin = s.pin := rfl
@[simp] theorem setChannel_R_rLine (ch : CompareChannel) (s : State) : (s.setChannel .R ch).rLine = s.rLine := rfl
@[simp] theorem setChannel_R_sensor (ch : CompareChannel) (s : State) : (s.setChannel .R ch).sensor = s.sensor := rfl
@[simp] theorem setChannel_R_remote (ch : CompareChannel) (s : State) : (s.setChannel .R ch).remote = s.remote := rfl
@[simp] theorem setChannel_R_out (ch : CompareChannel) (s : State) : (s.setChannel .R ch).out = s.out := rfl
@[simp] theorem setChannel_R_trace (ch : CompareChannel) (s : State) : (s.setChannel .R ch).trace = s.trace := rfl
@[simp] theorem setChannel_R_refused (ch : CompareChannel) (s : State) : (s.setChannel .R ch).refused = s.refused := rfl
@[simp] theorem setChannel_R_ovrS (ch : CompareChannel) (s : State) : (s.setChannel .R ch).ovrS = s.ovrS := rfl
@[simp] theorem setChannel_R_ovrR (ch : CompareChannel) (s : State) : (s.setChannel .R ch).ovrR = s.ovrR := rfl

/-! ## cancel_S -/

@[simp] theorem cancel_S_cfg (s : State) : (cancel .S s).cfg = s.cfg := rfl
@[simp] theorem cancel_S_input (s : State) : (cancel .S s).input = s.input := rfl
@[simp] theorem cancel_S_result (s : State) : (cancel .S s).result = s.result := rfl
@[simp] theorem cancel_S_cnt (s : State) : (cancel .S s).cnt = s.cnt := rfl
@[simp] theorem cancel_S_scap (s : State) : (cancel .S s).scap = s.scap := rfl
@[simp] theorem cancel_S_rcap (s : State) : (cancel .S s).rcap = s.rcap := rfl
@[simp] theorem cancel_S_ocS (s : State) : (cancel .S s).ocS = s.ocS.cancelled := rfl
@[simp] theorem cancel_S_ocR (s : State) : (cancel .S s).ocR = s.ocR := rfl
@[simp] theorem cancel_S_pin (s : State) : (cancel .S s).pin = s.pin := rfl
@[simp] theorem cancel_S_rLine (s : State) : (cancel .S s).rLine = s.rLine := rfl
@[simp] theorem cancel_S_sensor (s : State) : (cancel .S s).sensor = s.sensor := rfl
@[simp] theorem cancel_S_remote (s : State) : (cancel .S s).remote = s.remote := rfl
@[simp] theorem cancel_S_out (s : State) : (cancel .S s).out = s.out := rfl
@[simp] theorem cancel_S_trace (s : State) : (cancel .S s).trace = s.trace := rfl
@[simp] theorem cancel_S_refused (s : State) : (cancel .S s).refused = s.refused := rfl
@[simp] theorem cancel_S_ovrS (s : State) : (cancel .S s).ovrS = s.ovrS := rfl
@[simp] theorem cancel_S_ovrR (s : State) : (cancel .S s).ovrR = s.ovrR := rfl

/-! ## cancel_R -/

@[simp] theorem cancel_R_cfg (s : State) : (cancel .R s).cfg = s.cfg := rfl
@[simp] theorem cancel_R_input (s : State) : (cancel .R s).input = s.input := rfl
@[simp] theorem cancel_R_result (s : State) : (cancel .R s).result = s.result := rfl
@[simp] theorem cancel_R_cnt (s : State) : (cancel .R s).cnt = s.cnt := rfl
@[simp] theorem cancel_R_scap (s : State) : (cancel .R s).scap = s.scap := rfl
@[simp] theorem cancel_R_rcap (s : State) : (cancel .R s).rcap = s.rcap := rfl
@[simp] theorem cancel_R_ocS (s : State) : (cancel .R s).ocS = s.ocS := rfl
@[simp] theorem cancel_R_ocR (s : State) : (cancel .R s).ocR = s.ocR.cancelled := rfl
@[simp] theorem cancel_R_pin (s : State) : (cancel .R s).pin = s.pin := rfl
@[simp] theorem cancel_R_rLine (s : State) : (cancel .R s).rLine = s.rLine := rfl
@[simp] theorem cancel_R_sensor (s : State) : (cancel .R s).sensor = s.sensor := rfl
@[simp] theorem cancel_R_remote (s : State) : (cancel .R s).remote = s.remote := rfl
@[simp] theorem cancel_R_out (s : State) : (cancel .R s).out = s.out := rfl
@[simp] theorem cancel_R_trace (s : State) : (cancel .R s).trace = s.trace := rfl
@[simp] theorem cancel_R_refused (s : State) : (cancel .R s).refused = s.refused := rfl
@[simp] theorem cancel_R_ovrS (s : State) : (cancel .R s).ovrS = s.ovrS := rfl
@[simp] theorem cancel_R_ovrR (s : State) : (cancel .R s).ovrR = s.ovrR := rfl

/-! ## clearPending_sCap -/

@[simp] theorem clearPending_sCap_cfg (s : State) : (clearPending .sCap s).cfg = s.cfg := rfl
@[simp] theorem clearPending_sCap_input (s : State) : (clearPending .sCap s).input = s.input := rfl
@[simp] theorem clearPending_sCap_result (s : State) : (clearPending .sCap s).result = s.result := rfl
@[simp] theorem clearPending_sCap_cnt (s : State) : (clearPending .sCap s).cnt = s.cnt := rfl
@[simp] theorem clearPending_sCap_scap (s : State) : (clearPending .sCap s).scap = { s.scap with pf := false } := rfl
@[simp] theorem clearPending_sCap_rcap (s : State) : (clearPending .sCap s).rcap = s.rcap := rfl
@[simp] theorem clearPending_sCap_ocS (s : State) : (clearPending .sCap s).ocS = s.ocS := rfl
@[simp] theorem clearPending_sCap_ocR (s : State) : (clearPending .sCap s).ocR = s.ocR := rfl
@[simp] theorem clearPending_sCap_pin (s : State) : (clearPending .sCap s).pin = s.pin := rfl
@[simp] theorem clearPending_sCap_rLine (s : State) : (clearPending .sCap s).rLine = s.rLine := rfl
@[simp] theorem clearPending_sCap_sensor (s : State) : (clearPending .sCap s).sensor = s.sensor := rfl
@[simp] theorem clearPending_sCap_remote (s : State) : (clearPending .sCap s).remote = s.remote := rfl
@[simp] theorem clearPending_sCap_out (s : State) : (clearPending .sCap s).out = s.out := rfl
@[simp] theorem clearPending_sCap_trace (s : State) : (clearPending .sCap s).trace = s.trace := rfl
@[simp] theorem clearPending_sCap_refused (s : State) : (clearPending .sCap s).refused = s.refused := rfl
@[simp] theorem clearPending_sCap_ovrS (s : State) : (clearPending .sCap s).ovrS = s.ovrS := rfl
@[simp] theorem clearPending_sCap_ovrR (s : State) : (clearPending .sCap s).ovrR = s.ovrR := rfl

/-! ## clearPending_rCap -/

@[simp] theorem clearPending_rCap_cfg (s : State) : (clearPending .rCap s).cfg = s.cfg := rfl
@[simp] theorem clearPending_rCap_input (s : State) : (clearPending .rCap s).input = s.input := rfl
@[simp] theorem clearPending_rCap_result (s : State) : (clearPending .rCap s).result = s.result := rfl
@[simp] theorem clearPending_rCap_cnt (s : State) : (clearPending .rCap s).cnt = s.cnt := rfl
@[simp] theorem clearPending_rCap_scap (s : State) : (clearPending .rCap s).scap = s.scap := rfl
@[simp] theorem clearPending_rCap_rcap (s : State) : (clearPending .rCap s).rcap = { s.rcap with pf := false } := rfl
@[simp] theorem clearPending_rCap_ocS (s : State) : (clearPending .rCap s).ocS = s.ocS := rfl
@[simp] theorem clearPending_rCap_ocR (s : State) : (clearPending .rCap s).ocR = s.ocR := rfl
@[simp] theorem clearPending_rCap_pin (s : State) : (clearPending .rCap s).pin = s.pin := rfl
@[simp] theorem clearPending_rCap_rLine (s : State) : (clearPending .rCap s).rLine = s.rLine := rfl
@[simp] theorem clearPending_rCap_sensor (s : State) : (clearPending .rCap s).sensor = s.sensor := rfl
@[simp] theorem clearPending_rCap_remote (s : State) : (clearPending .rCap s).remote = s.remote := rfl
@[simp] theorem clearPending_rCap_out (s : State) : (clearPending .rCap s).out = s.out := rfl
@[simp] theorem clearPending_rCap_trace (s : State) : (clearPending .rCap s).trace = s.trace := rfl
@[simp] theorem clearPending_rCap_refused (s : State) : (clearPending .rCap s).refused = s.refused := rfl
@[simp] theorem clearPending_rCap_ovrS (s : State) : (clearPending .rCap s).ovrS = s.ovrS := rfl
@[simp] theorem clearPending_rCap_ovrR (s : State) : (clearPending .rCap s).ovrR = s.ovrR := rfl

/-! ## clearPending_sOc -/

@[simp] theorem clearPending_sOc_cfg (s : State) : (clearPending .sOc s).cfg = s.cfg := rfl
@[simp] theorem clearPending_sOc_input (s : State) : (clearPending .sOc s).input = s.input := rfl
@[simp] theorem clearPending_sOc_result (s : State) : (clearPending .sOc s).result = s.result := rfl
@[simp] theorem clearPending_sOc_cnt (s : State) : (clearPending .sOc s).cnt = s.cnt := rfl
@[simp] theorem clearPending_sOc_scap (s : State) : (clearPending .sOc s).scap = s.scap := rfl
@[simp] theorem clearPending_sOc_rcap (s : State) : (clearPending .sOc s).rcap = s.rcap := rfl
@[simp] theorem clearPending_sOc_ocS (s : State) : (clearPending .sOc s).ocS = { s.ocS with ocf := false } := rfl
@[simp] theorem clearPending_sOc_ocR (s : State) : (clearPending .sOc s).ocR = s.ocR := rfl
@[simp] theorem clearPending_sOc_pin (s : State) : (clearPending .sOc s).pin = s.pin := rfl
@[simp] theorem clearPending_sOc_rLine (s : State) : (clearPending .sOc s).rLine = s.rLine := rfl
@[simp] theorem clearPending_sOc_sensor (s : State) : (clearPending .sOc s).sensor = s.sensor := rfl
@[simp] theorem clearPending_sOc_remote (s : State) : (clearPending .sOc s).remote = s.remote := rfl
@[simp] theorem clearPending_sOc_out (s : State) : (clearPending .sOc s).out = s.out := rfl
@[simp] theorem clearPending_sOc_trace (s : State) : (clearPending .sOc s).trace = s.trace := rfl
@[simp] theorem clearPending_sOc_refused (s : State) : (clearPending .sOc s).refused = s.refused := rfl
@[simp] theorem clearPending_sOc_ovrS (s : State) : (clearPending .sOc s).ovrS = s.ovrS := rfl
@[simp] theorem clearPending_sOc_ovrR (s : State) : (clearPending .sOc s).ovrR = s.ovrR := rfl

/-! ## clearPending_rOc -/

@[simp] theorem clearPending_rOc_cfg (s : State) : (clearPending .rOc s).cfg = s.cfg := rfl
@[simp] theorem clearPending_rOc_input (s : State) : (clearPending .rOc s).input = s.input := rfl
@[simp] theorem clearPending_rOc_result (s : State) : (clearPending .rOc s).result = s.result := rfl
@[simp] theorem clearPending_rOc_cnt (s : State) : (clearPending .rOc s).cnt = s.cnt := rfl
@[simp] theorem clearPending_rOc_scap (s : State) : (clearPending .rOc s).scap = s.scap := rfl
@[simp] theorem clearPending_rOc_rcap (s : State) : (clearPending .rOc s).rcap = s.rcap := rfl
@[simp] theorem clearPending_rOc_ocS (s : State) : (clearPending .rOc s).ocS = s.ocS := rfl
@[simp] theorem clearPending_rOc_ocR (s : State) : (clearPending .rOc s).ocR = { s.ocR with ocf := false } := rfl
@[simp] theorem clearPending_rOc_pin (s : State) : (clearPending .rOc s).pin = s.pin := rfl
@[simp] theorem clearPending_rOc_rLine (s : State) : (clearPending .rOc s).rLine = s.rLine := rfl
@[simp] theorem clearPending_rOc_sensor (s : State) : (clearPending .rOc s).sensor = s.sensor := rfl
@[simp] theorem clearPending_rOc_remote (s : State) : (clearPending .rOc s).remote = s.remote := rfl
@[simp] theorem clearPending_rOc_out (s : State) : (clearPending .rOc s).out = s.out := rfl
@[simp] theorem clearPending_rOc_trace (s : State) : (clearPending .rOc s).trace = s.trace := rfl
@[simp] theorem clearPending_rOc_refused (s : State) : (clearPending .rOc s).refused = s.refused := rfl
@[simp] theorem clearPending_rOc_ovrS (s : State) : (clearPending .rOc s).ovrS = s.ovrS := rfl
@[simp] theorem clearPending_rOc_ovrR (s : State) : (clearPending .rOc s).ovrR = s.ovrR := rfl

/-! ## countTick -/

@[simp] theorem countTick_cfg (s : State) : (countTick s).cfg = s.cfg := rfl
@[simp] theorem countTick_input (s : State) : (countTick s).input = s.input := rfl
@[simp] theorem countTick_result (s : State) : (countTick s).result = s.result := rfl
@[simp] theorem countTick_cnt (s : State) : (countTick s).cnt = addTicks s.cfg s.cnt 1 := rfl
@[simp] theorem countTick_scap (s : State) : (countTick s).scap = s.scap := rfl
@[simp] theorem countTick_rcap (s : State) : (countTick s).rcap = s.rcap := rfl
@[simp] theorem countTick_ocS (s : State) : (countTick s).ocS = s.ocS.compareAt (addTicks s.cfg s.cnt 1) := rfl
@[simp] theorem countTick_ocR (s : State) : (countTick s).ocR = s.ocR.compareAt (addTicks s.cfg s.cnt 1) := rfl
@[simp] theorem countTick_pin (s : State) : (countTick s).pin = s.pin := rfl
@[simp] theorem countTick_rLine (s : State) : (countTick s).rLine = s.rLine := rfl
@[simp] theorem countTick_sensor (s : State) : (countTick s).sensor = s.sensor := rfl
@[simp] theorem countTick_remote (s : State) : (countTick s).remote = s.remote := rfl
@[simp] theorem countTick_out (s : State) : (countTick s).out = s.out := rfl
@[simp] theorem countTick_trace (s : State) : (countTick s).trace = s.trace := rfl
@[simp] theorem countTick_refused (s : State) : (countTick s).refused = s.refused := rfl
@[simp] theorem countTick_ovrS (s : State) : (countTick s).ovrS = s.ovrS := rfl
@[simp] theorem countTick_ovrR (s : State) : (countTick s).ovrR = s.ovrR := rfl

/-! ## clearBits -/

@[simp] theorem clearBits_cfg (s : State) : (clearBits s).cfg = s.cfg := rfl
@[simp] theorem clearBits_input (s : State) : (clearBits s).input = s.input := rfl
@[simp] theorem clearBits_result (s : State) : (clearBits s).result = s.result := rfl
@[simp] theorem clearBits_cnt (s : State) : (clearBits s).cnt = s.cnt := rfl
@[simp] theorem clearBits_scap (s : State) : (clearBits s).scap = s.scap := rfl
@[simp] theorem clearBits_rcap (s : State) : (clearBits s).rcap = s.rcap := rfl
@[simp] theorem clearBits_ocS (s : State) : (clearBits s).ocS = s.ocS := rfl
@[simp] theorem clearBits_ocR (s : State) : (clearBits s).ocR = s.ocR := rfl
@[simp] theorem clearBits_pin (s : State) : (clearBits s).pin = s.pin := rfl
@[simp] theorem clearBits_rLine (s : State) : (clearBits s).rLine = s.rLine := rfl
@[simp] theorem clearBits_sensor (s : State) : (clearBits s).sensor = { s.sensor with acc := 0, cnt := 0 } := rfl
@[simp] theorem clearBits_remote (s : State) : (clearBits s).remote = s.remote := rfl
@[simp] theorem clearBits_out (s : State) : (clearBits s).out = s.out := rfl
@[simp] theorem clearBits_trace (s : State) : (clearBits s).trace = s.trace := rfl
@[simp] theorem clearBits_refused (s : State) : (clearBits s).refused = s.refused := rfl
@[simp] theorem clearBits_ovrS (s : State) : (clearBits s).ovrS = s.ovrS := rfl
@[simp] theorem clearBits_ovrR (s : State) : (clearBits s).ovrR = s.ovrR := rfl

/-! ## captureOffS -/

@[simp] theorem captureOffS_cfg (s : State) : (captureOffS s).cfg = s.cfg := rfl
@[simp] theorem captureOffS_input (s : State) : (captureOffS s).input = s.input := rfl
@[simp] theorem captureOffS_result (s : State) : (captureOffS s).result = s.result := rfl
@[simp] theorem captureOffS_cnt (s : State) : (captureOffS s).cnt = s.cnt := rfl
@[simp] theorem captureOffS_scap (s : State) : (captureOffS s).scap = s.scap.off := rfl
@[simp] theorem captureOffS_rcap (s : State) : (captureOffS s).rcap = s.rcap := rfl
@[simp] theorem captureOffS_ocS (s : State) : (captureOffS s).ocS = s.ocS := rfl
@[simp] theorem captureOffS_ocR (s : State) : (captureOffS s).ocR = s.ocR := rfl
@[simp] theorem captureOffS_pin (s : State) : (captureOffS s).pin = s.pin := rfl
@[simp] theorem captureOffS_rLine (s : State) : (captureOffS s).rLine = s.rLine := rfl
@[simp] theorem captureOffS_sensor (s : State) : (captureOffS s).sensor = s.sensor := rfl
@[simp] theorem captureOffS_remote (s : State) : (captureOffS s).remote = s.remote := rfl
@[simp] theorem captureOffS_out (s : State) : (captureOffS s).out = s.out := rfl
@[simp] theorem captureOffS_trace (s : State) : (captureOffS s).trace = s.trace := rfl
@[simp] theorem captureOffS_refused (s : State) : (captureOffS s).refused = s.refused := rfl
@[simp] theorem captureOffS_ovrS (s : State) : (captureOffS s).ovrS = s.ovrS := rfl
@[simp] theorem captureOffS_ovrR (s : State) : (captureOffS s).ovrR = s.ovrR := rfl

/-! ## setSState -/

@[simp] theorem setSState_cfg (n : SState) (s : State) : (setSState n s).cfg = s.cfg := rfl
@[simp] theorem setSState_input (n : SState) (s : State) : (setSState n s).input = s.input := rfl
@[simp] theorem setSState_result (n : SState) (s : State) : (setSState n s).result = s.result := rfl
@[simp] theorem setSState_cnt (n : SState) (s : State) : (setSState n s).cnt = s.cnt := rfl
@[simp] theorem setSState_scap (n : SState) (s : State) : (setSState n s).scap = s.scap := rfl
@[simp] theorem setSState_rcap (n : SState) (s : State) : (setSState n s).rcap = s.rcap := rfl
@[simp] theorem setSState_ocS (n : SState) (s : State) : (setSState n s).ocS = s.ocS := rfl
@[simp] theorem setSState_ocR (n : SState) (s : State) : (setSState n s).ocR = s.ocR := rfl
@[simp] theorem setSState_pin (n : SState) (s : State) : (setSState n s).pin = s.pin := rfl
@[simp] theorem setSState_rLine (n : SState) (s : State) : (setSState n s).rLine = s.rLine := rfl
@[simp] theorem setSState_sensor (n : SState) (s : State) : (setSState n s).sensor = { s.sensor with state := n } := rfl
@[simp] theorem setSState_remote (n : SState) (s : State) : (setSState n s).remote = s.remote := rfl
@[simp] theorem setSState_out (n : SState) (s : State) : (setSState n s).out = s.out := rfl
@[simp] theorem setSState_trace (n : SState) (s : State) : (setSState n s).trace = s.trace := rfl
@[simp] theorem setSState_refused (n : SState) (s : State) : (setSState n s).refused = s.refused := rfl
@[simp] theorem setSState_ovrS (n : SState) (s : State) : (setSState n s).ovrS = s.ovrS := rfl
@[simp] theorem setSState_ovrR (n : SState) (s : State) : (setSState n s).ovrR = s.ovrR := rfl

/-! ## toggleS -/

@[simp] theorem toggleS_cfg (s : State) : (toggleS s).cfg = s.cfg := rfl
@[simp] theorem toggleS_input (s : State) : (toggleS s).input = s.input := rfl
@[simp] theorem toggleS_result (s : State) : (toggleS s).result = s.result := rfl
@[simp] theorem toggleS_cnt (s : State) : (toggleS s).cnt = s.cnt := rfl
@[simp] theorem toggleS_scap (s : State) : (toggleS s).scap = s.scap.toggled := rfl
@[simp] theorem toggleS_rcap (s : State) : (toggleS s).rcap = s.rcap := rfl
@[simp] theorem toggleS_ocS (s : State) : (toggleS s).ocS = s.ocS := rfl
@[simp] theorem toggleS_ocR (s : State) : (toggleS s).ocR = s.ocR := rfl
@[simp] theorem toggleS_pin (s : State) : (toggleS s).pin = s.pin := rfl
@[simp] theorem toggleS_rLine (s : State) : (toggleS s).rLine = s.rLine := rfl
@[simp] theorem toggleS_sensor (s : State) : (toggleS s).sensor = s.sensor := rfl
@[simp] theorem toggleS_remote (s : State) : (toggleS s).remote = s.remote := rfl
@[simp] theorem toggleS_out (s : State) : (toggleS s).out = s.out := rfl
@[simp] theorem toggleS_trace (s : State) : (toggleS s).trace = s.trace := rfl
@[simp] theorem toggleS_refused (s : State) : (toggleS s).refused = s.refused := rfl
@[simp] theorem toggleS_ovrS (s : State) : (toggleS s).ovrS = s.ovrS := rfl
@[simp] theorem toggleS_ovrR (s : State) : (toggleS s).ovrR = s.ovrR := rfl

/-! ## publish -/

@[simp] theorem publish_cfg (s : State) : (publish s).cfg = s.cfg := rfl
@[simp] theorem publish_input (s : State) : (publish s).input = s.input := rfl
@[simp] theorem publish_result (s : State) : (publish s).result = s.result := rfl
@[simp] theorem publish_cnt (s : State) : (publish s).cnt = s.cnt := rfl
@[simp] theorem publish_scap (s : State) : (publish s).scap = s.scap := rfl
@[simp] theorem publish_rcap (s : State) : (publish s).rcap = s.rcap := rfl
@[simp] theorem publish_ocS (s : State) : (publish s).ocS = s.ocS := rfl
@[simp] theorem publish_ocR (s : State) : (publish s).ocR = s.ocR := rfl
@[simp] theorem publish_pin (s : State) : (publish s).pin = s.pin := rfl
@[simp] theorem publish_rLine (s : State) : (publish s).rLine = s.rLine := rfl
@[simp] theorem publish_sensor (s : State) : (publish s).sensor = { s.sensor with hum := humField s.sensor.acc, temp := decodeTemp (tempField s.sensor.acc) } := rfl
@[simp] theorem publish_remote (s : State) : (publish s).remote = s.remote := rfl
@[simp] theorem publish_out (s : State) : (publish s).out = s.out := rfl
@[simp] theorem publish_trace (s : State) : (publish s).trace = s.trace := rfl
@[simp] theorem publish_refused (s : State) : (publish s).refused = s.refused := rfl
@[simp] theorem publish_ovrS (s : State) : (publish s).ovrS = s.ovrS := rfl
@[simp] theorem publish_ovrR (s : State) : (publish s).ovrR = s.ovrR := rfl

/-! ## appendS -/

@[simp] theorem appendS_cfg (b : Bool) (s : State) : (appendS b s).cfg = s.cfg := rfl
@[simp] theorem appendS_input (b : Bool) (s : State) : (appendS b s).input = s.input := rfl
@[simp] theorem appendS_result (b : Bool) (s : State) : (appendS b s).result = s.result := rfl
@[simp] theorem appendS_cnt (b : Bool) (s : State) : (appendS b s).cnt = s.cnt := rfl
@[simp] theorem appendS_scap (b : Bool) (s : State) : (appendS b s).scap = s.scap := rfl
@[simp] theorem appendS_rcap (b : Bool) (s : State) : (appendS b s).rcap = s.rcap := rfl
@[simp] theorem appendS_ocS (b : Bool) (s : State) : (appendS b s).ocS = s.ocS := rfl
@[simp] theorem appendS_ocR (b : Bool) (s : State) : (appendS b s).ocR = s.ocR := rfl
@[simp] theorem appendS_pin (b : Bool) (s : State) : (appendS b s).pin = s.pin := rfl
@[simp] theorem appendS_rLine (b : Bool) (s : State) : (appendS b s).rLine = s.rLine := rfl
@[simp] theorem appendS_sensor (b : Bool) (s : State) : (appendS b s).sensor = { s.sensor with acc := shiftIn40 s.sensor.acc b, cnt := s.sensor.cnt + 1 } := rfl
@[simp] theorem appendS_remote (b : Bool) (s : State) : (appendS b s).remote = s.remote := rfl
@[simp] theorem appendS_out (b : Bool) (s : State) : (appendS b s).out = s.out := rfl
@[simp] theorem appendS_trace (b : Bool) (s : State) : (appendS b s).trace = s.trace := rfl
@[simp] theorem appendS_refused (b : Bool) (s : State) : (appendS b s).refused = s.refused := rfl
@[simp] theorem appendS_ovrS (b : Bool) (s : State) : (appendS b s).ovrS = s.ovrS := rfl
@[simp] theorem appendS_ovrR (b : Bool) (s : State) : (appendS b s).ovrR = s.ovrR := rfl

/-! ## toggleR -/

@[simp] theorem toggleR_cfg (s : State) : (toggleR s).cfg = s.cfg := rfl
@[simp] theorem toggleR_input (s : State) : (toggleR s).input = s.input := rfl
@[simp] theorem toggleR_result (s : State) : (toggleR s).result = s.result := rfl
@[simp] theorem toggleR_cnt (s : State) : (toggleR s).cnt = s.cnt := rfl
@[simp] theorem toggleR_scap (s : State) : (toggleR s).scap = s.scap := rfl
@[simp] theorem toggleR_rcap (s : State) : (toggleR s).rcap = s.rcap.toggled := rfl
@[simp] theorem toggleR_ocS (s : State) : (toggleR s).ocS = s.ocS := rfl
@[simp] theorem toggleR_ocR (s : State) : (toggleR s).ocR = s.ocR := rfl
@[simp] theorem toggleR_pin (s : State) : (toggleR s).pin = s.pin := rfl
@[simp] theorem toggleR_rLine (s : State) : (toggleR s).rLine = s.rLine := rfl
@[simp] theorem toggleR_sensor (s : State) : (toggleR s).sensor = s.sensor := rfl
@[simp] theorem toggleR_remote (s : State) : (toggleR s).remote = s.remote := rfl
@[simp] theorem toggleR_out (s : State) : (toggleR s).out = s.out := rfl
@[simp] theorem toggleR_trace (s : State) : (toggleR s).trace = s.trace := rfl
@[simp] theorem toggleR_refused (s : State) : (toggleR s).refused = s.refused := rfl
@[simp] theorem toggleR_ovrS (s : State) : (toggleR s).ovrS = s.ovrS := rfl
@[simp] theorem toggleR_ovrR (s : State) : (toggleR s).ovrR = s.ovrR := rfl

/-! ## measureR -/

@[simp] theorem measureR_cfg (s : State) : (measureR s).cfg = s.cfg := rfl
@[simp] theorem measureR_input (s : State) : (measureR s).input = s.input := rfl
@[simp] theorem measureR_result (s : State) : (measureR s).result = s.result := rfl
@[simp] theorem measureR_cnt (s : State) : (measureR s).cnt = s.cnt := rfl
@[simp] theorem measureR_scap (s : State) : (measureR s).scap = s.scap := rfl
@[simp] theorem measureR_rcap (s : State) : (measureR s).rcap = s.rcap.toggled := rfl
@[simp] theorem measureR_ocS (s : State) : (measureR s).ocS = s.ocS := rfl
@[simp] theorem measureR_ocR (s : State) : (measureR s).ocR = s.ocR := rfl
@[simp] theorem measureR_pin (s : State) : (measureR s).pin = s.pin := rfl
@[simp] theorem measureR_rLine (s : State) : (measureR s).rLine = s.rLine := rfl
@[simp] theorem measureR_sensor (s : State) : (measureR s).sensor = s.sensor := rfl
@[simp] theorem measureR_remote (s : State) : (measureR s).remote = { s.remote with phase := s.rcap.icr } := rfl
@[simp] theorem measureR_out (s : State) : (measureR s).out = s.out := rfl
@[simp] theorem measureR_trace (s : State) : (measureR s).trace = s.trace := rfl
@[simp] theorem measureR_refused (s : State) : (measureR s).refused = s.refused := rfl
@[simp] theorem measureR_ovrS (s : State) : (measureR s).ovrS = s.ovrS := rfl
@[simp] theorem measureR_ovrR (s : State) : (measureR s).ovrR = s.ovrR := rfl

/-! ## appendR -/

@[simp] theorem appendR_cfg (b : Bool) (s : State) : (appendR b s).cfg = s.cfg := rfl
@[simp] theorem appendR_input (b : Bool) (s : State) : (appendR b s).input = s.input := rfl
@[simp] theorem appendR_result (b : Bool) (s : State) : (appendR b s).result = s.result := rfl
@[simp] theorem appendR_cnt (b : Bool) (s : State) : (appendR b s).cnt = s.cnt := rfl
@[simp] theorem appendR_scap (b : Bool) (s : State) : (appendR b s).scap = s.scap := rfl
@[simp] theorem appendR_rcap (b : Bool) (s : State) : (appendR b s).rcap = s.rcap := rfl
@[simp] theorem appendR_ocS (b : Bool) (s : State) : (appendR b s).ocS = s.ocS := rfl
@[simp] theorem appendR_ocR (b : Bool) (s : State) : (appendR b s).ocR = s.ocR := rfl
@[simp] theorem appendR_pin (b : Bool) (s : State) : (appendR b s).pin = s.pin := rfl
@[simp] theorem appendR_rLine (b : Bool) (s : State) : (appendR b s).rLine = s.rLine := rfl
@[simp] theorem appendR_sensor (b : Bool) (s : State) : (appendR b s).sensor = s.sensor := rfl
@[simp] theorem appendR_remote (b : Bool) (s : State) : (appendR b s).remote = { s.remote with acc := shiftIn14 s.remote.acc b, cnt := s.remote.cnt + 1 } := rfl
@[simp] theorem appendR_out (b : Bool) (s : State) : (appendR b s).out = s.out := rfl
@[simp] theorem appendR_trace (b : Bool) (s : State) : (appendR b s).trace = s.trace := rfl
@[simp] theorem appendR_refused (b : Bool) (s : State) : (appendR b s).refused = s.refused := rfl
@[simp] theorem appendR_ovrS (b : Bool) (s : State) : (appendR b s).ovrS = s.ovrS := rfl
@[simp] theorem appendR_ovrR (b : Bool) (s : State) : (appendR b s).ovrR = s.ovrR := rfl

/-! ## firstEdge -/

@[simp] theorem firstEdge_cfg (s : State) : (firstEdge s).cfg = s.cfg := rfl
@[simp] theorem firstEdge_input (s : State) : (firstEdge s).input = s.input := rfl
@[simp] theorem firstEdge_result (s : State) : (firstEdge s).result = s.result := rfl
@[simp] theorem firstEdge_cnt (s : State) : (firstEdge s).cnt = s.cnt := rfl
@[simp] theorem firstEdge_scap (s : State) : (firstEdge s).scap = s.scap := rfl
@[simp] theorem firstEdge_rcap (s : State) : (firstEdge s).rcap = s.rcap.toggled := rfl
@[simp] theorem firstEdge_ocS (s : State) : (firstEdge s).ocS = s.ocS := rfl
@[simp] theorem firstEdge_ocR (s : State) : (firstEdge s).ocR = s.ocR := rfl
@[simp] theorem firstEdge_pin (s : State) : (firstEdge s).pin = s.pin := rfl
@[simp] theorem firstEdge_rLine (s : State) : (firstEdge s).rLine = s.rLine := rfl
@[simp] theorem firstEdge_sensor (s : State) : (firstEdge s).sensor = s.sensor := rfl
@[simp] theorem firstEdge_remote (s : State) : (firstEdge s).remote = { s.remote with sub := .midOne, acc := 1, cnt := 1, phase := s.rcap.icr } := rfl
@[simp] theorem firstEdge_out (s : State) : (firstEdge s).out = s.out := rfl
@[simp] theorem firstEdge_trace (s : State) : (firstEdge s).trace = s.trace := rfl
@[simp] theorem firstEdge_refused (s : State) : (firstEdge s).refused = s.refused := rfl
@[simp] theorem firstEdge_ovrS (s : State) : (firstEdge s).ovrS = s.ovrS := rfl
@[simp] theorem firstEdge_ovrR (s : State) : (firstEdge s).ovrR = s.ovrR := rfl

/-! ## frameReset -/

@[simp] theorem frameReset_cfg (s : State) : (frameReset s).cfg = s.cfg := rfl
@[simp] theorem frameReset_input (s : State) : (frameReset s).input = s.input := rfl
@[simp] theorem frameReset_result (s : State) : (frameReset s).result = s.result := rfl
@[simp] theorem frameReset_cnt (s : State) : (frameReset s).cnt = s.cnt := rfl
@[simp] theorem frameReset_scap (s : State) : (frameReset s).scap = s.scap := rfl
@[simp] theorem frameReset_rcap (s : State) : (frameReset s).rcap = { s.rcap with pol := frameStartPolarity s.remote.inv } := rfl
@[simp] theorem frameReset_ocS (s : State) : (frameReset s).ocS = s.ocS := rfl
@[simp] theorem frameReset_ocR (s : State) : (frameReset s).ocR = s.ocR.cancelled := rfl
@[simp] theorem frameReset_pin (s : State) : (frameReset s).pin = s.pin := rfl
@[simp] theorem frameReset_rLine (s : State) : (frameReset s).rLine = s.rLine := rfl
@[simp] theorem frameReset_sensor (s : State) : (frameReset s).sensor = s.sensor := rfl
@[simp] theorem frameReset_remote (s : State) : (frameReset s).remote = { s.remote with acc := 0, cnt := 0, sub := .midOne } := rfl
@[simp] theorem frameReset_out (s : State) : (frameReset s).out = s.out := rfl
@[simp] theorem frameReset_trace (s : State) : (frameReset s).trace = s.trace := rfl
@[simp] theorem frameReset_refused (s : State) : (frameReset s).refused = s.refused := rfl
@[simp] theorem frameReset_ovrS (s : State) : (frameReset s).ovrS = s.ovrS := rfl
@[simp] theorem frameReset_ovrR (s : State) : (frameReset s).ovrR = s.ovrR := rfl

/-! ## remoteOff -/

@[simp] theorem remoteOff_cfg (s : State) : (remoteOff s).cfg = s.cfg := rfl
@[simp] theorem remoteOff_input (s : State) : (remoteOff s).input = s.input := rfl
@[simp] theorem remoteOff_result (s : State) : (remoteOff s).result = s.result := rfl
@[simp] theorem remoteOff_cnt (s : State) : (remoteOff s).cnt = s.cnt := rfl
@[simp] theorem remoteOff_scap (s : State) : (remoteOff s).scap = s.scap := rfl
@[simp] theorem remoteOff_rcap (s : State) : (remoteOff s).rcap = s.rcap.off := rfl
@[simp] theorem remoteOff_ocS (s : State) : (remoteOff s).ocS = s.ocS := rfl
@[simp] theorem remoteOff_ocR (s : State) : (remoteOff s).ocR = s.ocR := rfl
@[simp] theorem remoteOff_pin (s : State) : (remoteOff s).pin = s.pin := rfl
@[simp] theorem remoteOff_rLine (s : State) : (remoteOff s).rLine = s.rLine := rfl
@[simp] theorem remoteOff_sensor (s : State) : (remoteOff s).sensor = s.sensor := rfl
@[simp] theorem remoteOff_remote (s : State) : (remoteOff s).remote = { s.remote with en := false } := rfl
@[simp] theorem remoteOff_out (s : State) : (remoteOff s).out = s.out := rfl
@[simp] theorem remoteOff_trace (s : State) : (remoteOff s).trace = s.trace := rfl
@[simp] theorem remoteOff_refused (s : State) : (remoteOff s).refused = s.refused := rfl
@[simp] theorem remoteOff_ovrS (s : State) : (remoteOff s).ovrS = s.ovrS := rfl
@[simp] theorem remoteOff_ovrR (s : State) : (remoteOff s).ovrR = s.ovrR := rfl

end Sys2Proof.Machine
end

