-- ==== Sys2Proof/Laws/Timing.lean ====
section
/-! SUPPORT. Lemmas about the pure functions of Machine/Operands.lean and about well-formed configurations. -/

namespace Sys2Proof.Machine

/-! ## Ticks -/

theorem modulus_pos (c : Config) : 0 < c.modulus := Nat.two_pow_pos _

theorem addTicks_lt_modulus (c : Config) (a t : Nat) : addTicks c a t < c.modulus := Nat.mod_lt _ (modulus_pos c)

theorem elapsedTicks_lt_modulus (c : Config) (later earlier : Nat) : elapsedTicks c later earlier < c.modulus := by
  have hpos : (0 : Int) < (c.modulus : Int) := by exact_mod_cast modulus_pos c
  have h0 := Int.emod_nonneg ((later : Int) - earlier + c.modulus) (ne_of_gt hpos)
  have h1 := Int.emod_lt_of_pos ((later : Int) - earlier + c.modulus) hpos
  unfold elapsedTicks
  omega

/-- Two Ticks of the counter in natural-number arithmetic. -/
theorem elapsedTicks_eq_mod (c : Config) (later earlier : Nat) (h : earlier < c.modulus) :
    elapsedTicks c later earlier = (later + (c.modulus - earlier)) % c.modulus := by
  unfold elapsedTicks
  have e : (later : Int) - (earlier : Int) + (c.modulus : Int) = ((later + (c.modulus - earlier) : Nat) : Int) := by omega
  rw [e, ← Int.natCast_emod, Int.toNat_natCast]

/-! ## Well-formed configurations (R12) -/

theorem wf_parts {c : Config} (h : c.wf = true) :
    wf1 c = true ∧ wf2 c = true ∧ wf3 c = true ∧ wf4 c = true ∧ wf5 c = true ∧ wf6 c = true := by
  simpa [Config.wf, and_assoc] using h

theorem wf_schedulable {c : Config} (h : c.wf = true) {u : Nat} (hu : u ∈ armedDelays c) : schedulable c u = true :=
  List.all_eq_true.mp (wf_parts h).2.2.1 u hu

theorem wf_request {c : Config} (h : c.wf = true) : schedulable c c.requestUs = true :=
  wf_schedulable h (by simp [armedDelays])

theorem wf_watchdog {c : Config} (h : c.wf = true) : schedulable c c.sensorWatchdogUs = true :=
  wf_schedulable h (by simp [armedDelays])

theorem wf_guard {c : Config} (h : c.wf = true) {n : Nat} (h1 : 1 ≤ n) (h2 : n ≤ 13) :
    schedulable c (guardUs c n) = true := by
  refine wf_schedulable h ?_
  simp only [armedDelays, List.mem_cons, List.mem_map, List.mem_range, Config.frameBits, guardUs]
  exact .inr (.inr ⟨13 - n, by omega, by rw [show 13 - n + 1 = 14 - n by omega]⟩)

theorem schedulable_bounds {c : Config} {u : Nat} (h : schedulable c u = true) :
    1 ≤ usToTicks c u ∧ usToTicks c u ≤ c.modulus - 1 := by
  simpa [schedulable] using h

/-! ## Window tests -/

theorem within_iff {d nom tol : Nat} : within d nom tol = true ↔ nom - tol ≤ d ∧ d ≤ nom + tol := by
  simp [within]

theorem bitOfHigh_eq_some_false {c : Config} {d : Nat} (h : winBit0 c d = true) : bitOfHigh c d = some false := by
  simp [bitOfHigh, h]

theorem bitOfHigh_eq_some_true {c : Config} {d : Nat} (h0 : winBit0 c d = false) (h1 : winBit1 c d = true) :
    bitOfHigh c d = some true := by
  simp [bitOfHigh, h0, h1]

theorem bitOfHigh_eq_none {c : Config} {d : Nat} (h0 : winBit0 c d = false) (h1 : winBit1 c d = false) :
    bitOfHigh c d = none := by
  simp [bitOfHigh, h0, h1]

theorem classify_short {c : Config} {d : Nat} (h : within d c.halfBitUs c.remoteTolUs = true) :
    classify c d = .short := by
  simp [classify, h]

@[simp] theorem nextSub_invalid (s : RSub) : nextSub s .invalid = .error := by cases s <;> rfl

@[simp] theorem nextSub_of_error (p : PulseClass) : nextSub .error p = .error := by cases p <;> rfl

@[simp] theorem flip_flip (p : Polarity) : p.flip.flip = p := by cases p <;> rfl

@[simp] theorem flip_edgeTo (v : Level) : (edgeTo v).flip = edgeTo (!v) := by cases v <;> rfl

/-! ## Accumulators and fields -/

theorem toNat_shiftIn40 (acc : BitVec 40) (b : Bool) :
    (shiftIn40 acc b).toNat = (2 * acc.toNat + b.toNat) % 2 ^ 40 := by
  have hz : (acc <<< 1) &&& (BitVec.ofBool b).setWidth 40 = 0#40 := by
    ext i hi
    cases i <;> cases b <;> simp
  rw [shiftIn40, ← BitVec.add_eq_or_of_and_eq_zero _ _ hz]
  cases b <;> simp [BitVec.toNat_add, Nat.shiftLeft_eq, Nat.mul_comm]

theorem toNat_shiftIn14 (acc : BitVec 14) (b : Bool) :
    (shiftIn14 acc b).toNat = (2 * acc.toNat + b.toNat) % 2 ^ 14 := by
  have hz : (acc <<< 1) &&& (BitVec.ofBool b).setWidth 14 = 0#14 := by
    ext i hi
    cases i <;> cases b <;> simp
  rw [shiftIn14, ← BitVec.add_eq_or_of_and_eq_zero _ _ hz]
  cases b <;> simp [BitVec.toNat_add, Nat.shiftLeft_eq, Nat.mul_comm]

theorem decodeTemp_range (traw : BitVec 16) : -32767 ≤ decodeTemp traw ∧ decodeTemp traw ≤ 32767 := by
  have h := (traw.extractLsb' 0 15).isLt
  unfold decodeTemp
  split <;> omega

end Sys2Proof.Machine
end

