-- ==== Sys2Proof/Laws/Units.lean ====
section
/-! SUPPORT. What the primitives of Machine/Units.lean and Machine/Flags.lean can do, once each. -/

namespace Sys2Proof.Machine

/-! ## Compare channels (R131, R132, R140) -/

/-- A delay that can be armed is armed (R131). -/
theorem arm_of_schedulable {ch : Channel} {u : Nat} {s : State} (h : schedulable s.cfg u = true) :
    arm ch u s = .ok (s.setChannel ch (.armedAt s.cfg s.cnt (usToTicks s.cfg u))) := by
  have b := schedulable_bounds h
  rw [arm, if_neg (by omega)]

/-- All that arm can do when it is not refused. -/
theorem arm_eq_ok {ch : Channel} {u : Nat} {s t : State} (h : arm ch u s = .ok t) :
    t = s.setChannel ch (.armedAt s.cfg s.cnt (usToTicks s.cfg u)) := by
  unfold arm at h
  split at h
  · cases h
  · exact (Except.ok.inj h).symm

@[simp] theorem armedAt_oca (c : Config) (a t : Nat) : (CompareChannel.armedAt c a t).oca = true := rfl
@[simp] theorem armedAt_ocf (c : Config) (a t : Nat) : (CompareChannel.armedAt c a t).ocf = false := rfl
@[simp] theorem armedAt_ocr (c : Config) (a t : Nat) : (CompareChannel.armedAt c a t).ocr = addTicks c a t := rfl
@[simp] theorem cancelled_oca (ch : CompareChannel) : ch.cancelled.oca = false := rfl
@[simp] theorem cancelled_ocf (ch : CompareChannel) : ch.cancelled.ocf = false := rfl
@[simp] theorem cancelled_ocr (ch : CompareChannel) : ch.cancelled.ocr = ch.ocr := rfl

/-- A channel that is not armed for this Tick sees nothing (R140). -/
theorem compareAt_of_no_match {ch : CompareChannel} {n : Nat} (h : ¬(ch.oca = true ∧ ch.ocr = n)) :
    ch.compareAt n = ch := by
  rw [CompareChannel.compareAt, if_neg (by simpa using h)]

/-- A channel armed for this Tick fires once (R130, R140). -/
theorem compareAt_of_match {ch : CompareChannel} {n : Nat} (h1 : ch.oca = true) (h2 : ch.ocr = n) :
    ch.compareAt n = { ch with oca := false, ocf := true } := by
  rw [CompareChannel.compareAt, if_pos (by simp [h1, h2])]

@[simp] theorem compareAt_ocr (ch : CompareChannel) (n : Nat) : (ch.compareAt n).ocr = ch.ocr := by
  unfold CompareChannel.compareAt
  split <;> rfl

/-- A comparison makes nothing armed or pending that was neither. -/
theorem compareAt_active {ch : CompareChannel} {n : Nat}
    (h : (ch.compareAt n).oca = true ∨ (ch.compareAt n).ocf = true) : ch.oca = true ∨ ch.ocf = true := by
  unfold CompareChannel.compareAt at h
  split at h
  · rename_i hm
    exact .inl (by simp at hm; exact hm.1)
  · exact h

/-! ## Capture units (R34, R35) -/

@[simp] theorem off_en (u : CaptureUnit) : u.off.en = false := rfl
@[simp] theorem off_pf (u : CaptureUnit) : u.off.pf = false := rfl
@[simp] theorem off_icr (u : CaptureUnit) : u.off.icr = u.icr := rfl
@[simp] theorem off_pol (u : CaptureUnit) : u.off.pol = u.pol := rfl
@[simp] theorem on_en (u : CaptureUnit) : u.on.en = true := rfl
@[simp] theorem on_pf (u : CaptureUnit) : u.on.pf = false := rfl
@[simp] theorem on_icr (u : CaptureUnit) : u.on.icr = u.icr := rfl
@[simp] theorem on_pol (u : CaptureUnit) : u.on.pol = u.pol := rfl
@[simp] theorem toggled_en (u : CaptureUnit) : u.toggled.en = u.en := rfl
@[simp] theorem toggled_pf (u : CaptureUnit) : u.toggled.pf = u.pf := rfl
@[simp] theorem toggled_icr (u : CaptureUnit) : u.toggled.icr = u.icr := rfl
@[simp] theorem toggled_pol (u : CaptureUnit) : u.toggled.pol = u.pol.flip := rfl

/-- An edge that is not armed, or comes while capture is off, is ignored (R142). -/
theorem latchS_of_ignored {e : Polarity} {s : State} (h : ¬(s.scap.en = true ∧ e = s.scap.pol)) : latchS e s = s := by
  rw [latchS, if_neg (by simpa using h)]

/-- An armed edge with none waiting is latched (R142). -/
theorem latchS_of_armed {e : Polarity} {s : State} (h1 : s.scap.en = true) (h2 : e = s.scap.pol)
    (h3 : s.scap.pf = false) : latchS e s = { s with scap := { s.scap with icr := s.cnt, pf := true } } := by
  rw [latchS, if_pos (by simp [h1, h2])]
  simp [h3]

/-- An edge that is not armed, or comes while capture is off, is ignored (R143). -/
theorem latchR_of_ignored {e : Polarity} {s : State} (h : ¬(s.rcap.en = true ∧ e = s.rcap.pol)) : latchR e s = s := by
  rw [latchR, if_neg (by simpa using h)]

/-- An armed edge with none waiting is latched (R143). -/
theorem latchR_of_armed {e : Polarity} {s : State} (h1 : s.rcap.en = true) (h2 : e = s.rcap.pol)
    (h3 : s.rcap.pf = false) : latchR e s = { s with rcap := { s.rcap with icr := s.cnt, pf := true } } := by
  rw [latchR, if_pos (by simp [h1, h2])]
  simp [h3]

/-- All that the sensor capture unit can do: nothing, or latch the counter into SICR and set SCAP_PF. -/
theorem latchS_cases (e : Polarity) (s : State) :
    latchS e s = s ∨
    (s.scap.en = true ∧ e = s.scap.pol ∧ s.scap.pf = false ∧
      latchS e s = { s with scap := { s.scap with icr := s.cnt, pf := true } }) ∨
    (s.scap.en = true ∧ e = s.scap.pol ∧ s.scap.pf = true ∧
      latchS e s = { s with
        scap := { s.scap with icr := s.cnt, pf := true }, ovrS := s.ovrS + 1
        trace := s.trace ++ [.captureOverrun .S] }) := by
  by_cases h : s.scap.en = true ∧ e = s.scap.pol
  · cases hp : s.scap.pf
    · exact .inr (.inl ⟨h.1, h.2, rfl, latchS_of_armed h.1 h.2 hp⟩)
    · refine .inr (.inr ⟨h.1, h.2, rfl, ?_⟩)
      rw [latchS, if_pos (by simp [h.1, h.2])]
      simp [hp]
  · exact .inl (latchS_of_ignored h)

/-- All that the remote capture unit can do. -/
theorem latchR_cases (e : Polarity) (s : State) :
    latchR e s = s ∨
    (s.rcap.en = true ∧ e = s.rcap.pol ∧ s.rcap.pf = false ∧
      latchR e s = { s with rcap := { s.rcap with icr := s.cnt, pf := true } }) ∨
    (s.rcap.en = true ∧ e = s.rcap.pol ∧ s.rcap.pf = true ∧
      latchR e s = { s with
        rcap := { s.rcap with icr := s.cnt, pf := true }, ovrR := s.ovrR + 1
        trace := s.trace ++ [.captureOverrun .R] }) := by
  by_cases h : s.rcap.en = true ∧ e = s.rcap.pol
  · cases hp : s.rcap.pf
    · exact .inr (.inl ⟨h.1, h.2, rfl, latchR_of_armed h.1 h.2 hp⟩)
    · refine .inr (.inr ⟨h.1, h.2, rfl, ?_⟩)
      rw [latchR, if_pos (by simp [h.1, h.2])]
      simp [hp]
  · exact .inl (latchR_of_ignored h)

/-! ## The sensor line (R38, R142) -/

/-- With capture off the line only follows its drivers. -/
theorem lineUpdateS_of_off {s : State} (h : s.scap.en = false) :
    lineUpdateS s = { s with pin := { s.pin with line := s.pin.observed } } := by
  unfold lineUpdateS
  split
  · rename_i e
    rw [e]
  · exact latchS_of_ignored (by simp [h])

/-- Driving the line with capture off. -/
theorem driveS_of_off {v : Bool} {s : State} (h : s.scap.en = false) :
    driveS v s =
      { s with
        pin := { env := s.pin.env, drv := v, line := s.pin.env && !v }
        out := s.out ++ [.sdrive v] } := by
  unfold driveS
  rw [lineUpdateS_of_off (by simpa using h)]
  rfl

/-- A level of the sensor device that brings no armed edge (R141, R142). -/
theorem presentS_of_ignored {v : Level} {s : State}
    (h : ¬((v && !s.pin.drv) ≠ s.pin.line ∧ s.scap.en = true ∧ edgeTo (v && !s.pin.drv) = s.scap.pol)) :
    presentS v s = { s with pin := { env := v, drv := s.pin.drv, line := v && !s.pin.drv } } := by
  show (if (v && !s.pin.drv) = s.pin.line then _ else _) = _
  split
  · rename_i e
    rw [e]
  · rw [latchS_of_ignored]
    · rfl
    · rintro ⟨a, b⟩
      exact h ⟨‹_›, a, b⟩

/-- A level of the sensor device that brings an armed edge (R141, R142, R144). -/
theorem presentS_of_armed {v : Level} {s : State} (h1 : (v && !s.pin.drv) ≠ s.pin.line) (h2 : s.scap.en = true)
    (h3 : edgeTo (v && !s.pin.drv) = s.scap.pol) :
    presentS v s = { s with
      pin := { env := v, drv := s.pin.drv, line := v && !s.pin.drv }
      scap := { s.scap with icr := s.cnt, pf := true }
      ovrS := if s.scap.pf then s.ovrS + 1 else s.ovrS
      trace := if s.scap.pf then s.trace ++ [.captureOverrun .S] else s.trace } := by
  show (if (v && !s.pin.drv) = s.pin.line then _ else _) = _
  rw [if_neg h1, latchS, if_pos (Bool.and_eq_true _ _ ▸ ⟨h2, decide_eq_true h3⟩)]
  rfl

/-- A level of the receiver that brings no armed edge (R143). -/
theorem presentR_of_ignored {v : Level} {s : State} (h : ¬(v ≠ s.rLine ∧ s.rcap.en = true ∧ edgeTo v = s.rcap.pol)) :
    presentR v s = { s with rLine := v } := by
  unfold presentR
  split
  · rename_i e
    rw [e]
  · exact latchR_of_ignored fun k => h ⟨‹_›, k.1, k.2⟩

/-- A level of the receiver that brings an armed edge (R143, R144). -/
theorem presentR_of_armed {v : Level} {s : State} (h1 : v ≠ s.rLine) (h2 : s.rcap.en = true)
    (h3 : edgeTo v = s.rcap.pol) :
    presentR v s = { s with
      rLine := v
      rcap := { s.rcap with icr := s.cnt, pf := true }
      ovrR := if s.rcap.pf then s.ovrR + 1 else s.ovrR
      trace := if s.rcap.pf then s.trace ++ [.captureOverrun .R] else s.trace } := by
  rw [presentR, if_neg h1, latchR, if_pos (by simpa [h2] using h3)]

/-- All that a line update can do: the line register follows, and the capture unit may latch. -/
theorem lineUpdateS_cases (s : State) :
    (s.pin.observed = s.pin.line ∧ lineUpdateS s = s) ∨
    (s.pin.observed ≠ s.pin.line ∧
      lineUpdateS s = latchS (edgeTo s.pin.observed) { s with pin := { s.pin with line := s.pin.observed } }) := by
  unfold lineUpdateS
  split
  · exact .inl ⟨‹_›, rfl⟩
  · exact .inr ⟨‹_›, rfl⟩

end Sys2Proof.Machine
end

