-- ==== Sys2Proof/Laws/Handlers.lean ====
section
/-! SUPPORT. What the four handlers can do, once each, and what each of them leaves alone. -/

namespace Sys2Proof.Machine

/-! ## The sensor's handlers -/

/-- abort in closed form (R168). -/
theorem abort_eq (c : Cause) (s : State) :
    abort c s = { s with
      sensor := { s.sensor with state := .idle, acc := 0, cnt := 0 }
      scap := s.scap.off
      ocS := s.ocS.cancelled
      pin := if s.pin.drv then { env := s.pin.env, drv := false, line := s.pin.env } else s.pin
      out := if s.pin.drv then s.out ++ [.sdrive false] else s.out
      trace := s.trace ++ [c.entry] } := by
  unfold abort releaseS
  cases hd : s.pin.drv
  · simp [hd, record, setSState, cancel, clearBits, captureOffS, State.setChannel, State.channel]
  · rw [if_pos (by simpa using hd), driveS_of_off (by simp)]
    simp [record, setSState, cancel, clearBits, captureOffS, State.setChannel, State.channel]

/-- finish in closed form when the checksum holds (R178). -/
theorem finish_of_valid {s : State} (h : checksumOk s.sensor.acc = true) :
    finish s = { s with
      sensor := { s.sensor with
        state := .ready, acc := 0, cnt := 0
        hum := humField s.sensor.acc, temp := decodeTemp (tempField s.sensor.acc) }
      scap := s.scap.off
      ocS := s.ocS.cancelled
      trace := s.trace ++ [.sReady (humField s.sensor.acc) (tempField s.sensor.acc)] } := by
  rw [finish, if_pos h]
  simp [record, setSState, cancel, clearBits, captureOffS, publish, State.setChannel, State.channel]

/-- finish aborts when the checksum does not hold (R178). -/
theorem finish_of_invalid {s : State} (h : checksumOk s.sensor.acc = false) :
    finish s = abort .checksumMismatch s := by
  rw [finish, if_neg (by simp [h])]

/-- A matched or mismatched window (R167, R169 to R171). -/
theorem windowed_cases (m : Bool) (n : SState) (s : State) :
    (m = true ∧ windowed m n s = advance n s) ∨ (m = false ∧ windowed m n s = abort .pulseOutOfTolerance s) := by
  cases m
  · exact .inr ⟨rfl, rfl⟩
  · exact .inl ⟨rfl, rfl⟩

/-- The state a matched window advances to (R160). -/
def SState.following : SState → SState
  | .awaitAck => .ackPhase
  | .ackPhase => .awaitBitStart
  | .awaitBitStart => .awaitBit
  | .awaitBit => .bitPhase
  | .idle | .requesting | .bitPhase | .ready => .idle

/-- All that sensor_capture can do (R166 to R172, R178, R179). -/
theorem sensorCapture_cases (s : State) :
    (s.sensor.state.capturing = false ∧ sensorCapture s = s) ∨
    (s.sensor.state.capturing = true ∧ s.sensor.state ≠ .bitPhase ∧
      sensorCapture s = advance s.sensor.state.following { s with sensor := { s.sensor with phase := s.scap.icr } }) ∨
    (s.sensor.state.capturing = true ∧
      sensorCapture s = abort .pulseOutOfTolerance { s with sensor := { s.sensor with phase := s.scap.icr } }) ∨
    (s.sensor.state = .bitPhase ∧ ∃ b,
      bitOfHigh s.cfg (elapsed s.cfg s.scap.icr s.sensor.phase) = some b ∧
      sensorCapture s = acceptBit b { s with sensor := { s.sensor with phase := s.scap.icr } }) := by
  unfold sensorCapture sensorEdge
  cases hs : s.sensor.state <;> simp only [SState.capturing, if_true, if_false, Bool.false_eq_true]
  · exact .inl (by simp)
  · exact .inl (by simp)
  · rcases windowed_cases (winResp s.cfg (elapsed s.cfg s.scap.icr s.sensor.phase)) .ackPhase
      { s with sensor := { s.sensor with state := .awaitAck, phase := s.scap.icr } } with h | h
    · exact .inr (.inl ⟨trivial, by simp, by simp only [hs] at *; exact h.2⟩)
    · exact .inr (.inr (.inl ⟨trivial, by simp only [hs] at *; exact h.2⟩))
  · rcases windowed_cases (winAck s.cfg (elapsed s.cfg s.scap.icr s.sensor.phase)) .awaitBitStart
      { s with sensor := { s.sensor with state := .ackPhase, phase := s.scap.icr } } with h | h
    · exact .inr (.inl ⟨trivial, by simp, by simp only [hs] at *; exact h.2⟩)
    · exact .inr (.inr (.inl ⟨trivial, by simp only [hs] at *; exact h.2⟩))
  · rcases windowed_cases (winDstart s.cfg (elapsed s.cfg s.scap.icr s.sensor.phase)) .awaitBit
      { s with sensor := { s.sensor with state := .awaitBitStart, phase := s.scap.icr } } with h | h
    · exact .inr (.inl ⟨trivial, by simp, by simp only [hs] at *; exact h.2⟩)
    · exact .inr (.inr (.inl ⟨trivial, by simp only [hs] at *; exact h.2⟩))
  · rcases windowed_cases (winLow s.cfg (elapsed s.cfg s.scap.icr s.sensor.phase)) .bitPhase
      { s with sensor := { s.sensor with state := .awaitBit, phase := s.scap.icr } } with h | h
    · exact .inr (.inl ⟨trivial, by simp, by simp only [hs] at *; exact h.2⟩)
    · exact .inr (.inr (.inl ⟨trivial, by simp only [hs] at *; exact h.2⟩))
  · simp only [bitPhaseEdge]
    cases hb : bitOfHigh s.cfg (elapsed s.cfg s.scap.icr s.sensor.phase) with
    | none => exact .inr (.inr (.inl ⟨trivial, rfl⟩))
    | some b => exact .inr (.inr (.inr ⟨trivial, b, rfl, rfl⟩))
  · exact .inl (by simp)

/-- acceptBit either finishes the frame or waits for the next bit (R172). -/
theorem acceptBit_cases (b : Bool) (s : State) :
    ((s.sensor.cnt + 1).toNat = 40 ∧ acceptBit b s = finish (toggleS (appendS b s))) ∨
    ((s.sensor.cnt + 1).toNat ≠ 40 ∧ acceptBit b s = setSState .awaitBit (toggleS (appendS b s))) := by
  unfold acceptBit
  split
  · exact .inl ⟨by simpa [Config.sensorFrameBits] using ‹_›, rfl⟩
  · exact .inr ⟨by simpa [Config.sensorFrameBits] using ‹_›, rfl⟩

/-- The end of the request pulse in closed form, from a state with capture off as Requesting has it (R164). -/
theorem startListening_of_off {s : State} (h : s.scap.en = false) :
    startListening s = { s with
      pin := { env := s.pin.env, drv := false, line := s.pin.env }
      out := s.out ++ [.sdrive false]
      scap := { s.scap with pol := .falling, pf := false, en := true }
      sensor := { s.sensor with state := .awaitAck, phase := s.cnt } } := by
  unfold startListening
  rw [driveS_of_off h]
  simp [setSState]

/-- All that sensor_timeout can do (R164, R179). -/
theorem sensorTimeout_cases {s t : State} (h : sensorTimeout s = .ok t) :
    (s.sensor.state = .requesting ∧ arm .S s.cfg.sensorWatchdogUs (startListening s) = .ok t) ∨
    (s.sensor.state.capturing = true ∧ t = abort .timeout s) ∨
    (s.sensor.state.busy = false ∧ t = s) := by
  unfold sensorTimeout at h
  cases hs : s.sensor.state <;> simp only [hs] at h <;> simp [SState.capturing, SState.busy] <;>
    first | exact h | exact (Except.ok.inj h).symm

/-! ## The remote's handlers -/

/-- complete in closed form (R219). -/
theorem completeR_eq (s : State) :
    completeR s = { s with
      out := s.out ++ [.msg s.remote.acc]
      trace := s.trace ++ [.rMsg s.remote.acc]
      remote := { s.remote with acc := 0, cnt := 0, sub := .midOne }
      rcap := { s.rcap with pol := frameStartPolarity s.remote.inv }
      ocR := s.ocR.cancelled } := rfl

/-- The completion check (R218). -/
theorem completionCheck_cases (s : State) :
    (s.remote.cnt.toNat = 14 ∧ completionCheck s = completeR s) ∨
    (s.remote.cnt.toNat ≠ 14 ∧ completionCheck s = s) := by
  unfold completionCheck
  split
  · exact .inl ⟨‹_›, rfl⟩
  · exact .inr ⟨‹_›, rfl⟩

/-- All that remote_capture can do when no delay is refused (R213 to R219). -/
theorem remoteCapture_cases {s t : State} (h : remoteCapture s = .ok t) :
    (s.remote.cnt = 0 ∧ t = firstEdge s) ∨
    (s.remote.cnt ≠ 0 ∧ s.remote.sub = .error ∧
      arm .R (guardUs s.cfg s.remote.cnt.toNat) (measureR s) = .ok t) ∨
    (s.remote.cnt ≠ 0 ∧ s.remote.sub ≠ .error ∧
      nextSub s.remote.sub (classify s.cfg (elapsed s.cfg s.rcap.icr s.remote.phase)) = .error ∧
      enterError (classify s.cfg (elapsed s.cfg s.rcap.icr s.remote.phase))
        (elapsed s.cfg s.rcap.icr s.remote.phase) (measureR s) = .ok t) ∨
    (s.remote.cnt ≠ 0 ∧ s.remote.sub ≠ .error ∧
      nextSub s.remote.sub (classify s.cfg (elapsed s.cfg s.rcap.icr s.remote.phase)) ≠ .error ∧
      t = enterSub (nextSub s.remote.sub (classify s.cfg (elapsed s.cfg s.rcap.icr s.remote.phase))) (measureR s)) := by
  unfold remoteCapture at h
  split at h
  · exact .inl ⟨‹_›, (Except.ok.inj h).symm⟩
  · split at h
    · exact .inr (.inl ⟨‹_›, ‹_›, h⟩)
    · unfold frameEdge at h
      split at h
      · exact .inr (.inr (.inl ⟨‹_›, ‹_›, ‹_›, h⟩))
      · exact .inr (.inr (.inr ⟨‹_›, ‹_›, ‹_›, (Except.ok.inj h).symm⟩))

/-- enter_error in closed form when its guard can be armed (R217). -/
theorem enterError_eq_ok {cls : PulseClass} {d : Nat} {s t : State} (h : enterError cls d s = .ok t) :
    t = { s with
      remote := { s.remote with sub := .error }
      ocR := .armedAt s.cfg s.cnt (usToTicks s.cfg (guardUs s.cfg s.remote.cnt.toNat))
      trace := s.trace ++ [.rErrorEnter s.remote.sub cls d s.remote.cnt] } := by
  unfold enterError at h
  cases ha : arm .R (guardUs s.cfg s.remote.cnt.toNat) { s with remote := { s.remote with sub := .error } } with
  | error e => simp [ha, Except.map] at h
  | ok u =>
    simp only [ha, Except.map, Except.ok.injEq] at h
    rw [← h, arm_eq_ok ha]
    rfl

/-- All that remote_timeout can do (R220). -/
theorem remoteTimeout_cases {s t : State} (h : remoteTimeout s = .ok t) :
    (s.remote.sub = .error ∧ t = record .rGuardReset (frameReset s)) ∨ (s.remote.sub ≠ .error ∧ t = s) := by
  unfold remoteTimeout at h
  split at h
  · exact .inl ⟨‹_›, (Except.ok.inj h).symm⟩
  · exact .inr ⟨‹_›, (Except.ok.inj h).symm⟩

/-! ## What each decoder's handlers leave alone (R86) -/

/-- `t` differs from `s` at most on the sensor's side: its decoder, capture unit, compare channel, pin, overrun count,
and in the entries of OUT and TRACE. -/
structure SensorSide (s t : State) : Prop where
  cfg : t.cfg = s.cfg
  input : t.input = s.input
  result : t.result = s.result
  cnt : t.cnt = s.cnt
  rcap : t.rcap = s.rcap
  ocR : t.ocR = s.ocR
  rLine : t.rLine = s.rLine
  remote : t.remote = s.remote
  refused : t.refused = s.refused
  ovrR : t.ovrR = s.ovrR

/-- `t` differs from `s` at most on the remote's side: its decoder, capture unit, compare channel, and in the entries
of OUT and TRACE. -/
structure RemoteSide (s t : State) : Prop where
  cfg : t.cfg = s.cfg
  input : t.input = s.input
  result : t.result = s.result
  cnt : t.cnt = s.cnt
  scap : t.scap = s.scap
  ocS : t.ocS = s.ocS
  pin : t.pin = s.pin
  rLine : t.rLine = s.rLine
  sensor : t.sensor = s.sensor
  refused : t.refused = s.refused
  ovrS : t.ovrS = s.ovrS
  ovrR : t.ovrR = s.ovrR

theorem SensorSide.trans {s t u : State} (h : SensorSide s t) (k : SensorSide t u) : SensorSide s u := by
  cases h; cases k; constructor <;> simp_all

theorem RemoteSide.trans {s t u : State} (h : RemoteSide s t) (k : RemoteSide t u) : RemoteSide s u := by
  cases h; cases k; constructor <;> simp_all

theorem latchS_side (e : Polarity) (s : State) : SensorSide s (latchS e s) := by
  unfold latchS
  split <;> constructor <;> rfl

theorem lineUpdateS_side (s : State) : SensorSide s (lineUpdateS s) := by
  rcases lineUpdateS_cases s with ⟨_, e⟩ | ⟨_, e⟩ <;> rw [e]
  · constructor <;> rfl
  · exact SensorSide.trans (by constructor <;> rfl) (latchS_side _ _)

theorem driveS_side (v : Bool) (s : State) : SensorSide s (driveS v s) :=
  SensorSide.trans (by constructor <;> rfl) (lineUpdateS_side _)

theorem startListening_side (s : State) : SensorSide s (startListening s) :=
  SensorSide.trans (driveS_side false s) (by constructor <;> rfl)

theorem abort_side (c : Cause) (s : State) : SensorSide s (abort c s) := by
  rw [abort_eq]; constructor <;> rfl

theorem finish_side (s : State) : SensorSide s (finish s) := by
  cases h : checksumOk s.sensor.acc
  · rw [finish_of_invalid h]; exact abort_side _ s
  · rw [finish_of_valid h]; constructor <;> rfl

theorem arm_S_side {u : Nat} {s t : State} (h : arm .S u s = .ok t) : SensorSide s t := by
  rw [arm_eq_ok h]; constructor <;> rfl

theorem arm_R_side {u : Nat} {s t : State} (h : arm .R u s = .ok t) : RemoteSide s t := by
  rw [arm_eq_ok h]; constructor <;> rfl

theorem sensorCapture_side (s : State) : SensorSide s (sensorCapture s) := by
  rcases sensorCapture_cases s with ⟨_, e⟩ | ⟨_, _, e⟩ | ⟨_, e⟩ | ⟨_, b, _, e⟩ <;> rw [e]
  · constructor <;> rfl
  · constructor <;> rfl
  · exact SensorSide.trans (by constructor <;> rfl) (abort_side _ _)
  · rcases acceptBit_cases b { s with sensor := { s.sensor with phase := s.scap.icr } } with ⟨_, e⟩ | ⟨_, e⟩ <;> rw [e]
    · exact SensorSide.trans (by constructor <;> rfl) (finish_side _)
    · constructor <;> rfl

theorem sensorTimeout_side {s t : State} (h : sensorTimeout s = .ok t) : SensorSide s t := by
  rcases sensorTimeout_cases h with ⟨_, ha⟩ | ⟨_, rfl⟩ | ⟨_, rfl⟩
  · exact (startListening_side s).trans (arm_S_side ha)
  · exact abort_side _ s
  · constructor <;> rfl

theorem completionCheck_side (s : State) : RemoteSide s (completionCheck s) := by
  rcases completionCheck_cases s with ⟨_, e⟩ | ⟨_, e⟩ <;> rw [e] <;> constructor <;> rfl

theorem enterSub_side (n : RSub) (s : State) : RemoteSide s (enterSub n s) := by
  cases n <;> exact RemoteSide.trans (by constructor <;> rfl) (completionCheck_side _)

theorem remoteCapture_side {s t : State} (h : remoteCapture s = .ok t) : RemoteSide s t := by
  rcases remoteCapture_cases h with ⟨_, rfl⟩ | ⟨_, _, ha⟩ | ⟨_, _, _, he⟩ | ⟨_, _, _, rfl⟩
  · constructor <;> rfl
  · exact RemoteSide.trans (by constructor <;> rfl) (arm_R_side ha)
  · rw [enterError_eq_ok he]; constructor <;> rfl
  · exact RemoteSide.trans (by constructor <;> rfl) (enterSub_side _ _)

theorem remoteTimeout_side {s t : State} (h : remoteTimeout s = .ok t) : RemoteSide s t := by
  rcases remoteTimeout_cases h with ⟨_, rfl⟩ | ⟨_, rfl⟩ <;> constructor <;> rfl

end Sys2Proof.Machine
end

