-- ==== Sys2Proof/Laws/Ops.lean ====
section
/-! SUPPORT. Taking an interrupt, the dispatch loop, and the end of an operation: what each can do, once. -/

namespace Sys2Proof.Machine

/-! ## Pending sources and their priority (R259, R264) -/

@[simp] theorem pending_sCap (s : State) : s.pending .sCap = (s.scap.en && s.scap.pf) := rfl
@[simp] theorem pending_rCap (s : State) : s.pending .rCap = (s.rcap.en && s.rcap.pf) := rfl
@[simp] theorem pending_sOc (s : State) : s.pending .sOc = s.ocS.ocf := rfl
@[simp] theorem pending_rOc (s : State) : s.pending .rOc = s.ocR.ocf := rfl

/-- The source dispatch takes is pending. -/
theorem pending_of_highestPending {s : State} {src : Source} (h : s.highestPending = some src) :
    s.pending src = true := by
  unfold State.highestPending at h
  split at h
  · cases h; assumption
  · split at h
    · cases h; assumption
    · split at h
      · cases h; assumption
      · split at h
        · cases h; assumption
        · cases h

/-- No source is taken exactly when none is pending. -/
theorem highestPending_eq_none_iff {s : State} : s.highestPending = none ↔ ∀ src, s.pending src = false := by
  constructor
  · intro h src
    unfold State.highestPending at h
    repeat' split at h
    all_goals first | (cases h; done) | skip
    cases src <;> simp_all
  · intro h
    simp only [State.highestPending, h, Bool.false_eq_true, if_false]

/-- Whether a source is pending depends on the four flags and two enables only. -/
theorem highestPending_congr {s t : State} (h1 : t.scap.en = s.scap.en) (h2 : t.scap.pf = s.scap.pf)
    (h3 : t.rcap.en = s.rcap.en) (h4 : t.rcap.pf = s.rcap.pf) (h5 : t.ocS.ocf = s.ocS.ocf)
    (h6 : t.ocR.ocf = s.ocR.ocf) : t.highestPending = s.highestPending := by
  have h : ∀ src, t.pending src = s.pending src := by
    intro src
    cases src <;> simp [h1, h2, h3, h4, h5, h6]
  simp only [State.highestPending, h]

/-! ## take (R263) -/

/-- All that take can do: the pending bit is cleared and the source's handler runs. -/
theorem take_cases {src : Source} {s t : State} (h : take src s = .ok t) :
    (src = .sCap ∧ t = sensorCapture (clearPending .sCap s)) ∨
    (src = .rCap ∧ remoteCapture (clearPending .rCap s) = .ok t) ∨
    (src = .sOc ∧ sensorTimeout (clearPending .sOc s) = .ok t) ∨
    (src = .rOc ∧ remoteTimeout (clearPending .rOc s) = .ok t) := by
  have e : handler src (clearPending src s) = .ok t := by
    cases hh : handler src (clearPending src s) with
    | error e => simp [take, hh, Except.map] at h
    | ok u => simpa [take, hh, Except.map, handlerReturn] using h
  cases src <;> simp only [handler] at e <;> simp
  · exact (Except.ok.inj e).symm
  · exact e
  · exact e
  · exact e

/-- take, when its handler is not refused. -/
theorem take_of_handler {src : Source} {s t : State} (h : handler src (clearPending src s) = .ok t) :
    take src s = .ok t := by
  simp [take, h, Except.map, handlerReturn]

theorem clearPending_sCap_side (s : State) : SensorSide s (clearPending .sCap s) := by constructor <;> rfl
theorem clearPending_sOc_side (s : State) : SensorSide s (clearPending .sOc s) := by constructor <;> rfl
theorem clearPending_rCap_side (s : State) : RemoteSide s (clearPending .rCap s) := by constructor <;> rfl
theorem clearPending_rOc_side (s : State) : RemoteSide s (clearPending .rOc s) := by constructor <;> rfl

/-- A sensor handler leaves the remote side alone (R86). -/
theorem take_sensorSide {src : Source} {s t : State} (h : take src s = .ok t) (hs : src = .sCap ∨ src = .sOc) :
    SensorSide s t := by
  rcases take_cases h with ⟨rfl, rfl⟩ | ⟨rfl, _⟩ | ⟨rfl, h'⟩ | ⟨rfl, _⟩
  · exact (clearPending_sCap_side s).trans (sensorCapture_side _)
  · simp at hs
  · exact (clearPending_sOc_side s).trans (sensorTimeout_side h')
  · simp at hs

/-- A remote handler leaves the sensor side alone (R86). -/
theorem take_remoteSide {src : Source} {s t : State} (h : take src s = .ok t) (hs : src = .rCap ∨ src = .rOc) :
    RemoteSide s t := by
  rcases take_cases h with ⟨rfl, _⟩ | ⟨rfl, h'⟩ | ⟨rfl, _⟩ | ⟨rfl, h'⟩
  · simp at hs
  · exact (clearPending_rCap_side s).trans (remoteCapture_side h')
  · simp at hs
  · exact (clearPending_rOc_side s).trans (remoteTimeout_side h')

/-- What take never changes, whichever the source. -/
theorem take_common {src : Source} {s t : State} (h : take src s = .ok t) :
    t.cfg = s.cfg ∧ t.input = s.input ∧ t.result = s.result ∧ t.cnt = s.cnt ∧ t.rLine = s.rLine ∧
      t.refused = s.refused := by
  cases src
  · have k := take_sensorSide h (.inl rfl); exact ⟨k.cfg, k.input, k.result, k.cnt, k.rLine, k.refused⟩
  · have k := take_remoteSide h (.inl rfl); exact ⟨k.cfg, k.input, k.result, k.cnt, k.rLine, k.refused⟩
  · have k := take_sensorSide h (.inr rfl); exact ⟨k.cfg, k.input, k.result, k.cnt, k.rLine, k.refused⟩
  · have k := take_remoteSide h (.inr rfl); exact ⟨k.cfg, k.input, k.result, k.cnt, k.rLine, k.refused⟩

/-! ## No handler makes a source pending (R265) -/

theorem abort_flags (c : Cause) (s : State) : (abort c s).scap.pf = false ∧ (abort c s).ocS.ocf = false := by
  rw [abort_eq]; exact ⟨rfl, rfl⟩

theorem finish_flags (s : State) : (finish s).scap.pf = false ∧ (finish s).ocS.ocf = false := by
  cases h : checksumOk s.sensor.acc
  · rw [finish_of_invalid h]; exact abort_flags _ s
  · rw [finish_of_valid h]; exact ⟨rfl, rfl⟩

theorem sensorCapture_flags (s : State) :
    ((sensorCapture s).scap.pf = false ∨ (sensorCapture s).scap.pf = s.scap.pf) ∧
    ((sensorCapture s).ocS.ocf = false ∨ (sensorCapture s).ocS.ocf = s.ocS.ocf) := by
  rcases sensorCapture_cases s with ⟨_, e⟩ | ⟨_, _, e⟩ | ⟨_, e⟩ | ⟨_, b, _, e⟩ <;> rw [e]
  · exact ⟨.inr rfl, .inr rfl⟩
  · exact ⟨.inr rfl, .inr rfl⟩
  · exact ⟨.inl (abort_flags _ _).1, .inl (abort_flags _ _).2⟩
  · rcases acceptBit_cases b { s with sensor := { s.sensor with phase := s.scap.icr } } with ⟨_, e⟩ | ⟨_, e⟩ <;> rw [e]
    · exact ⟨.inl (finish_flags _).1, .inl (finish_flags _).2⟩
    · exact ⟨.inr rfl, .inr rfl⟩

theorem startListening_flags (s : State) :
    (startListening s).scap.pf = false ∧ (startListening s).ocS.ocf = s.ocS.ocf := by
  refine ⟨rfl, ?_⟩
  simp only [startListening, setSState_ocS, driveS]
  rcases lineUpdateS_cases (emit (.sdrive false) { s with pin := { s.pin with drv := false } }) with
    ⟨_, e⟩ | ⟨_, e⟩ <;> rw [e]
  · rfl
  · unfold latchS
    split <;> rfl

theorem sensorTimeout_flags {s t : State} (h : sensorTimeout s = .ok t) :
    (t.scap.pf = false ∨ t.scap = s.scap) ∧ (t.ocS.ocf = false ∨ t.ocS.ocf = s.ocS.ocf) := by
  rcases sensorTimeout_cases h with ⟨_, ha⟩ | ⟨_, rfl⟩ | ⟨_, rfl⟩
  · rw [arm_eq_ok ha]
    exact ⟨.inl (by simpa using (startListening_flags s).1), .inl (by simp)⟩
  · exact ⟨.inl (abort_flags _ _).1, .inl (abort_flags _ _).2⟩
  · exact ⟨.inr rfl, .inr rfl⟩

theorem enterSub_flags (n : RSub) (s : State) :
    (enterSub n s).rcap.pf = s.rcap.pf ∧ (enterSub n s).rcap.en = s.rcap.en ∧
    ((enterSub n s).ocR.ocf = false ∨ (enterSub n s).ocR.ocf = s.ocR.ocf) := by
  have h : ∀ u : State, (completionCheck u).rcap.pf = u.rcap.pf ∧ (completionCheck u).rcap.en = u.rcap.en ∧
      ((completionCheck u).ocR.ocf = false ∨ (completionCheck u).ocR.ocf = u.ocR.ocf) := by
    intro u
    rcases completionCheck_cases u with ⟨_, e⟩ | ⟨_, e⟩ <;> rw [e]
    · exact ⟨rfl, rfl, .inl rfl⟩
    · exact ⟨rfl, rfl, .inr rfl⟩
  cases n <;> exact h _

theorem remoteCapture_flags {s t : State} (h : remoteCapture s = .ok t) :
    t.rcap.pf = s.rcap.pf ∧ t.rcap.en = s.rcap.en ∧ (t.ocR.ocf = false ∨ t.ocR.ocf = s.ocR.ocf) := by
  rcases remoteCapture_cases h with ⟨_, rfl⟩ | ⟨_, _, ha⟩ | ⟨_, _, _, he⟩ | ⟨_, _, _, rfl⟩
  · exact ⟨rfl, rfl, .inr rfl⟩
  · rw [arm_eq_ok ha]; simp
  · rw [enterError_eq_ok he]; simp
  · simpa using enterSub_flags (nextSub s.remote.sub (classify s.cfg (elapsed s.cfg s.rcap.icr s.remote.phase))) (measureR s)

theorem remoteTimeout_flags {s t : State} (h : remoteTimeout s = .ok t) :
    t.rcap.pf = s.rcap.pf ∧ t.rcap.en = s.rcap.en ∧ (t.ocR.ocf = false ∨ t.ocR.ocf = s.ocR.ocf) := by
  rcases remoteTimeout_cases h with ⟨_, rfl⟩ | ⟨_, rfl⟩
  · exact ⟨rfl, rfl, .inl rfl⟩
  · exact ⟨rfl, rfl, .inr rfl⟩

/-- take clears its own source and makes none pending (R263, R265). -/
theorem pending_after_take {src : Source} {s t : State} (h : take src s = .ok t) {x : Source}
    (hx : t.pending x = true) : s.pending x = true ∧ x ≠ src := by
  rcases take_cases h with ⟨rfl, e⟩ | ⟨rfl, h'⟩ | ⟨rfl, h'⟩ | ⟨rfl, h'⟩
  · have k := take_sensorSide h (.inl rfl)
    have k1 := k.rcap
    have k2 := k.ocR
    have f := sensorCapture_flags (clearPending .sCap s)
    rw [← e] at f
    clear e h k
    cases x <;> simp_all
  · have k := take_remoteSide h (.inl rfl)
    have k1 := k.scap
    have k2 := k.ocS
    have f := remoteCapture_flags h'
    clear h' h k
    cases x <;> simp_all
  · have k := take_sensorSide h (.inr rfl)
    have k1 := k.rcap
    have k2 := k.ocR
    have f := sensorTimeout_flags h'
    clear h' h k
    cases x <;> simp_all
  · have k := take_remoteSide h (.inr rfl)
    have k1 := k.scap
    have k2 := k.ocS
    have f := remoteTimeout_flags h'
    clear h' h k
    cases x <;> simp_all

/-! ## The dispatch loop (R261) -/

/-- How many sources are pending. -/
def pendingCount (s : State) : Nat :=
  (s.pending .sCap).toNat + (s.pending .rCap).toNat + (s.pending .sOc).toNat + (s.pending .rOc).toNat

theorem pendingCount_le_four (s : State) : pendingCount s ≤ 4 := by
  have h : ∀ b : Bool, b.toNat ≤ 1 := Bool.toNat_le
  have := h (s.pending .sCap); have := h (s.pending .rCap)
  have := h (s.pending .sOc); have := h (s.pending .rOc)
  unfold pendingCount
  omega

/-- Each pass of the loop leaves fewer sources pending. -/
theorem pendingCount_decreases {src : Source} {s t : State} (h : take src s = .ok t) (hp : s.pending src = true) :
    pendingCount t < pendingCount s := by
  have key : ∀ x, t.pending x = true → s.pending x = true ∧ x ≠ src := fun x hx => pending_after_take h hx
  have a := key .sCap
  have b := key .rCap
  have c := key .sOc
  have d := key .rOc
  unfold pendingCount
  generalize t.pending .sCap = ta, t.pending .rCap = tb, t.pending .sOc = tc, t.pending .rOc = td at a b c d ⊢
  cases src <;> rw [hp] <;>
    generalize s.pending .sCap = sa, s.pending .rCap = sb, s.pending .sOc = sc, s.pending .rOc = sd at a b c d ⊢ <;>
    revert a b c d <;> cases ta <;> cases tb <;> cases tc <;> cases td <;> cases sa <;> cases sb <;> cases sc <;>
    cases sd <;> simp

/-- With nothing pending the loop does nothing. -/
theorem dispatchLoop_of_none {n : Nat} {s : State} (h : s.highestPending = none) : dispatchLoop n s = .ok s := by
  cases n
  · rfl
  · simp [dispatchLoop, h]

/-- With a source pending the loop takes it first. -/
theorem dispatchLoop_of_some {n : Nat} {s : State} {src : Source} (h : s.highestPending = some src) :
    dispatchLoop (n + 1) s = (take src s).bind (dispatchLoop n) := by
  simp [dispatchLoop, h]

/-- The loop ends with no source pending when it may run as often as sources are pending. -/
theorem dispatchLoop_quiet : ∀ (n : Nat) (s t : State), pendingCount s ≤ n → dispatchLoop n s = .ok t →
    t.highestPending = none
  | 0, s, t, hn, h => by
    cases h
    rw [highestPending_eq_none_iff]
    intro src
    unfold pendingCount at hn
    cases hsrc : s.pending src
    · rfl
    · cases src <;> simp [hsrc] at hn
  | n + 1, s, t, hn, h => by
    cases hp : s.highestPending with
    | none => rw [dispatchLoop_of_none hp] at h; cases h; exact hp
    | some src =>
      rw [dispatchLoop_of_some hp] at h
      cases ht : take src s with
      | error e => simp [ht, Except.bind] at h
      | ok u =>
        have := pendingCount_decreases ht (pending_of_highestPending hp)
        exact dispatchLoop_quiet n u t (by omega) (by simpa [ht, Except.bind] using h)

/-- dispatch ends with no source pending (R261). -/
theorem dispatch_quiet {s t : State} (h : dispatch s = .ok t) : t.highestPending = none :=
  dispatchLoop_quiet 4 s t (pendingCount_le_four s) h

/-- What every handler keeps, the loop keeps. -/
theorem dispatchLoop_keeps {P : State → Prop}
    (hP : ∀ src s t, P s → s.highestPending = some src → take src s = .ok t → P t) :
    ∀ (n : Nat) (s t : State), P s → dispatchLoop n s = .ok t → P t
  | 0, s, t, hs, h => by cases h; exact hs
  | n + 1, s, t, hs, h => by
    cases hp : s.highestPending with
    | none => rw [dispatchLoop_of_none hp] at h; cases h; exact hs
    | some src =>
      rw [dispatchLoop_of_some hp] at h
      cases ht : take src s with
      | error e => simp [ht, Except.bind] at h
      | ok u =>
        exact dispatchLoop_keeps hP n u t (hP src s u hs hp ht)
          (by simpa [ht, Except.bind] using h)

/-! ## The end of an operation (R261, R266) -/

/-- In a settled state the end of an operation changes nothing. -/
theorem settle_of_settled {s : State} (h : s.Settled) : settle s = .ok s := by
  unfold settle
  split
  · rfl
  · exact dispatchLoop_of_none (h.resolve_left ‹_›)

/-- Under eager dispatch with one source pending, the end of an operation takes it and nothing more. -/
theorem settle_of_one {s t : State} {src : Source} (he : s.cfg.irqLatencyFree = false)
    (hp : s.highestPending = some src) (ht : take src s = .ok t) (hq : t.highestPending = none) :
    settle s = .ok t := by
  rw [settle, if_neg (by simp [he]), dispatch, dispatchLoop_of_some hp, ht]
  exact dispatchLoop_of_none hq

/-- After the end of an operation the state is settled. -/
theorem settled_of_settle {s t : State} (h : settle s = .ok t) : t.Settled := by
  unfold settle at h
  split at h
  · cases h; exact .inl ‹_›
  · exact .inr (dispatch_quiet h)

/-- What every handler keeps, the end of an operation keeps. -/
theorem settle_keeps {P : State → Prop}
    (hP : ∀ src s t, P s → s.highestPending = some src → take src s = .ok t → P t) {s t : State} (hs : P s)
    (h : settle s = .ok t) : P t := by
  unfold settle at h
  split at h
  · cases h; exact hs
  · exact dispatchLoop_keeps hP 4 s t hs h

/-- A host operation that ends in a settled state answers it with its result word. -/
theorem respond_of_settled {s t : State} {r : ResultWord} (h : t.Settled) :
    respond s t r = .next { t with result := some r } := by
  rw [respond, settle_of_settled (s := { t with result := some r }) h]
  rfl

/-- An environment event that ends in a settled state answers it. -/
theorem conclude_of_settled {s t : State} (h : t.Settled) : conclude s t = .next { t with result := none } := by
  rw [conclude, settle_of_settled (s := { t with result := none }) h]
  rfl

/-- All that the outcome of a step can be: the state reached, or the refusal's effect on the state it began in. -/
theorem commit_cases {s t : State} {r : Except RefuseReason State} (h : commit s r = .next t) :
    r = .ok t ∨ t = refuse s := by
  cases r with
  | error e => exact .inr (Host.Outcome.next.inj h).symm
  | ok u => exact .inl (congrArg _ (Host.Outcome.next.inj h))

end Sys2Proof.Machine
end

