-- ==== Sys2Proof/Laws/Step.lean ====
section
/-! SUPPORT. What one operation and one step can do, said once; and the induction that every invariant uses. -/

namespace Sys2Proof.Machine

/-- The own effect of an operation, before its result word and its dispatch. -/
inductive Body (s : State) : State → Prop where
  | nothing : Body s s
  | start {t : State} (ha : startAccepted s = true) (h : arm .S s.cfg.requestUs (beginRequest s) = .ok t) : Body s t
  | consume : Body s (consume s)
  | initialise (p : Bool) : Body s (initialise p s)
  | enable (h1 : s.remote.initd = true) (h2 : s.remote.en = false)
      (h3 : s.cfg.sharedCapture = true → s.sensor.state.busy = false) : Body s (remoteOn s)
  | disable : Body s (frameReset (remoteOff s))
  | tick : Body s (countTick s)
  | sline (v : Level) : Body s (presentS v s)
  | rline (v : Level) : Body s (presentR v s)

/-- All that a host operation's end can be. -/
theorem respond_cases {s b t : State} {r : ResultWord} (hb : Body s b) (h : respond s b r = .next t) :
    t = refuse s ∨ ∃ b r, Body s b ∧ settle { b with result := r } = .ok t := by
  rcases commit_cases h with h | h
  · exact .inr ⟨b, some r, hb, h⟩
  · exact .inl h

/-- All that an environment event's end can be. -/
theorem conclude_cases {s b t : State} (hb : Body s b) (h : conclude s b = .next t) :
    t = refuse s ∨ ∃ b r, Body s b ∧ settle { b with result := r } = .ok t := by
  rcases commit_cases h with h | h
  · exact .inr ⟨b, none, hb, h⟩
  · exact .inl h

/-- All that an operation can do: be refused, reset the block, or have its own effect and its dispatch. -/
theorem exec_cases {i : Instr} {s t : State} (h : exec i s = .next t) :
    t = refuse s ∨ (i = .evReset ∧ t = State.resetWith s.cfg s.input) ∨
    ∃ b r, Body s b ∧ settle { b with result := r } = .ok t := by
  have nothing : ∀ {r : ResultWord}, respond s s r = .next t →
      t = refuse s ∨ ∃ b r, Body s b ∧ settle { b with result := r } = .ok t := fun h => respond_cases .nothing h
  cases i with
  | tbRdclk => exact (nothing h).imp_right .inr
  | tbElapsed later earlier =>
    simp only [exec, execTbElapsed] at h
    split at h
    · exact (nothing h).imp_right .inr
    · exact .inl (Host.Outcome.next.inj h).symm
  | tbT2us ticks => exact (nothing h).imp_right .inr
  | tbUs2t us => exact (nothing h).imp_right .inr
  | sStart =>
    simp only [exec, execSStart] at h
    split at h
    · rename_i ha
      rcases commit_cases h with h | h
      · cases harm : arm .S s.cfg.requestUs (beginRequest s) with
        | error e => simp [harm, Except.bind] at h
        | ok u => exact .inr (.inr ⟨u, some 1, .start ha harm, by simpa [harm, Except.bind] using h⟩)
      · exact .inl h
    · exact (nothing h).imp_right .inr
  | sPoll => exact (nothing h).imp_right .inr
  | sRdtemp => exact (respond_cases .consume h).imp_right .inr
  | sRdhum => exact (respond_cases .consume h).imp_right .inr
  | rInit p => exact (respond_cases (.initialise p) h).imp_right .inr
  | rEnable =>
    simp only [exec, execREnable] at h
    split at h
    · exact (nothing h).imp_right .inr
    · split at h
      · exact (nothing h).imp_right .inr
      · split at h
        · exact (nothing h).imp_right .inr
        · rename_i h1 h2 h3
          exact (respond_cases (.enable (by simpa using h1) (by simpa using h2) (by simpa using h3)) h).imp_right .inr
  | rDisable => exact (respond_cases .disable h).imp_right .inr
  | rToggle m => exact (nothing h).imp_right .inr
  | rAddr m => exact (nothing h).imp_right .inr
  | rCmd m => exact (nothing h).imp_right .inr
  | rExtcmd m => exact (nothing h).imp_right .inr
  | evTick => exact (conclude_cases .tick h).imp_right .inr
  | evSline v => exact (conclude_cases (.sline v) h).imp_right .inr
  | evRline v => exact (conclude_cases (.rline v) h).imp_right .inr
  | evReset => exact .inr (.inl ⟨rfl, (Host.Outcome.next.inj h).symm⟩)

/-- All that a dispatch step can do (R266; log 7). -/
theorem dispatchStep_cases {s t : State} (h : dispatchStep s = .next t) :
    t = { s with result := none } ∨ t = refuse s ∨
    (s.cfg.irqLatencyFree = true ∧ ∃ src, s.highestPending = some src ∧ take src { s with result := none } = .ok t) := by
  unfold dispatchStep at h
  split at h
  · split at h
    · exact .inl (Host.Outcome.next.inj h).symm
    · rcases commit_cases h with h | h
      · exact .inr (.inr ⟨‹_›, _, ‹_›, h⟩)
      · exact .inr (.inl h)
  · exact .inl (Host.Outcome.next.inj h).symm

/-- All that one step can do. -/
theorem step_cases {s t : State} (h : step s = .next t) :
    s.cfg.wf = true ∧
    ((s.input = [] ∧ t = s) ∨
     ∃ x rest, s.input = x :: rest ∧ runStimulus x { s with input := rest } = .next t) := by
  unfold step at h
  split at h
  · refine ⟨‹_›, ?_⟩
    unfold fetch at h
    cases hi : s.input with
    | nil => simp only [hi] at h; exact .inl ⟨rfl, (Host.Outcome.next.inj h).symm⟩
    | cons x rest => simp only [hi] at h; exact .inr ⟨x, rest, rfl, h⟩
  · cases h

/-- All that one stimulus can do. -/
theorem runStimulus_cases {x : Stimulus} {s t : State} (h : runStimulus x s = .next t) :
    (∃ w e, x = .word w ∧ decode s.cfg w = .error e ∧ t = refuse s) ∨
    (∃ w i, x = .word w ∧ decode s.cfg w = .ok i ∧ exec i s = .next t) ∨
    (x = .dispatchSlot ∧ dispatchStep s = .next t) := by
  cases x with
  | word w =>
    simp only [runStimulus] at h
    cases hd : decode s.cfg w with
    | error e => simp only [hd] at h; exact .inl ⟨w, e, rfl, hd, (Host.Outcome.next.inj h).symm⟩
    | ok i => simp only [hd] at h; exact .inr (.inl ⟨w, i, rfl, hd, h⟩)
  | dispatchSlot => exact .inr (.inr ⟨rfl, h⟩)

/-- The induction of every invariant: a property that the model's own fields and REFUSED do not matter to, that the
reset state has, and that every own effect and every handler keeps, is kept by every step. -/
theorem step_keeps {P : State → Prop}
    (hfree : ∀ (s : State) i r f, P s → P { s with input := i, result := r, refused := f })
    (hreset : ∀ c i, Config.wf c = true → P (State.resetWith c i))
    (hbody : ∀ s t, s.cfg.wf = true → P s → Body s t → P t)
    (htake : ∀ src s t, P s → s.highestPending = some src → take src s = .ok t → P t)
    {s t : State} (hs : P s) (h : step s = .next t) : P t := by
  obtain ⟨hwf, ⟨_, rfl⟩ | ⟨x, rest, _, hx⟩⟩ := step_cases h
  · exact hs
  have hin : P { s with input := rest } := hfree s rest s.result s.refused hs
  have hrefuse : P (refuse { s with input := rest }) := hfree s rest none true hs
  rcases runStimulus_cases hx with ⟨_, _, _, _, rfl⟩ | ⟨_, _, _, _, he⟩ | ⟨_, hd⟩
  · exact hrefuse
  · rcases exec_cases he with rfl | ⟨_, rfl⟩ | ⟨b, r, hb, hset⟩
    · exact hrefuse
    · exact hreset _ _ hwf
    · refine settle_keeps htake ?_ hset
      have := hbody { s with input := rest } b hwf hin hb
      exact hfree b b.input r b.refused this
  · rcases dispatchStep_cases hd with rfl | rfl | ⟨_, src, hp, ht⟩
    · exact hfree s rest none s.refused hs
    · exact hrefuse
    · exact htake src _ t (hfree s rest none s.refused hs) hp ht

end Sys2Proof.Machine
end

