-- ==== Sys2Proof/Laws/Closed.lean ====
section
/-! SUPPORT. Closed forms of the operations' own effects, and what an armed edge does under eager dispatch. -/

namespace Sys2Proof.Machine

/-- frame_reset() in closed form (R205). -/
theorem frameReset_eq_frameCleared (s : State) : frameReset s = s.frameCleared := by
  simp [frameReset, cancel, State.setChannel, State.channel, State.frameCleared, CompareChannel.cancelled,
    frameStartPolarity]

/-- An accepted `S.START` in closed form, before its request is armed (R163). -/
theorem beginRequest_eq (s : State) :
    beginRequest s = { s with
      sensor := { s.sensor with state := .requesting, acc := 0, cnt := 0 }
      scap := { s.scap with en := false, pf := false }
      pin := { s.pin with drv := true, line := false }
      out := s.out ++ [.sdrive true] } := by
  unfold beginRequest
  rw [driveS_of_off (by simp)]
  simp [setSState, clearBits, captureOffS, CaptureUnit.off]

/-- The consuming read in closed form (R174, R175). -/
theorem consume_eq (s : State) :
    consume s = { s with
      sensor := { s.sensor with state := if s.sensor.state = .ready then .idle else s.sensor.state } } := by
  unfold consume
  cases h : s.sensor.state <;> simp [SState.busy, setSState]
  all_goals (cases s; cases ‹SensorDecoder›; simp_all)

/-- An abort outside Requesting in closed form (R168). -/
theorem abort_eq_aborted (c : Cause) {s : State} (h : s.pin.drv = false) : abort c s = s.aborted c.entry := by
  rw [abort_eq]
  simp [h, State.aborted, CaptureUnit.off, CompareChannel.cancelled]

/-- A change that makes no source pending keeps a state settled. -/
theorem settled_of_no_new_pending {s t : State} (h : s.Settled) (hc : t.cfg = s.cfg)
    (hp : ∀ x, t.pending x = true → s.pending x = true) : t.Settled := by
  rcases h with h | h
  · exact .inl (by rw [hc]; exact h)
  · refine .inr (highestPending_eq_none_iff.mpr fun x => ?_)
    cases hx : t.pending x
    · rfl
    · exact absurd (highestPending_eq_none_iff.mp h x) (by simp [hp x hx])

/-- After the only pending source has been taken, none is pending. -/
theorem none_pending_after_take {src : Source} {s t : State} (h : take src s = .ok t)
    (honly : ∀ x, s.pending x = true → x = src) : t.highestPending = none := by
  refine highestPending_eq_none_iff.mpr fun x => ?_
  cases hx : t.pending x
  · rfl
  · have := pending_after_take h hx
    exact absurd (honly x this.1) this.2

/-- Under eager dispatch an armed sensor edge in a capturing state is latched, taken and evaluated in its step (R141,
R142, R166, R261). -/
theorem exec_evSline_of_edge {s : State} {v : Level} (h : s.SeesSensorEdge v) (hc : s.sensor.state.capturing = true) :
    exec (.evSline v) s = .next (sensorEdge (elapsed s.cfg s.cnt s.sensor.phase) (s.withSensorEdge v)) := by
  obtain ⟨he, hp, h1, h2, h3⟩ := h
  have hpp := highestPending_eq_none_iff.mp hp
  have pf : s.scap.pf = false := by simpa [h1] using hpp .sCap
  have ht : take .sCap { presentS v s with result := none } =
      .ok (sensorEdge (elapsed s.cfg s.cnt s.sensor.phase) (s.withSensorEdge v)) := by
    rw [presentS_of_armed h2 h1 h3]
    apply take_of_handler
    simp only [handler, clearPending, sensorCapture, hc, if_true, State.withSensorEdge, pf]
    rfl
  rw [exec, execEvSline, conclude, settle_of_one (src := .sCap) _ _ ht]
  · rfl
  · apply none_pending_after_take ht
    intro x hx
    rw [presentS_of_armed h2 h1 h3] at hx
    have := hpp x
    clear hpp ht
    cases x <;> simp_all
  · rw [presentS_of_armed h2 h1 h3]; exact he
  · rw [presentS_of_armed h2 h1 h3]; simp [State.highestPending, h1]

/-- Under eager dispatch an armed remote edge is latched and taken in its step (R143, R213, R261). -/
theorem exec_evRline_of_edge {s u : State} {v : Level} (h : s.SeesRemoteEdge v)
    (hu : remoteCapture { s with result := none, rLine := v, rcap := { s.rcap with icr := s.cnt, pf := false } } = .ok u) :
    exec (.evRline v) s = .next u := by
  obtain ⟨he, hp, h1, h2, h3⟩ := h
  have hpp := highestPending_eq_none_iff.mp hp
  have pf : s.rcap.pf = false := by simpa [h1] using hpp .rCap
  have ht : take .rCap { presentR v s with result := none } = .ok u := by
    rw [presentR_of_armed h2 h1 h3]
    apply take_of_handler
    simp only [handler, clearPending, pf]
    exact hu
  rw [exec, execEvRline, conclude, settle_of_one (src := .rCap) (t := u) _ _ ht]
  · rfl
  · apply none_pending_after_take ht
    intro x hx
    rw [presentR_of_armed h2 h1 h3] at hx
    have := hpp x
    clear hpp ht
    cases x <;> simp_all
  · rw [presentR_of_armed h2 h1 h3]; exact he
  · rw [presentR_of_armed h2 h1 h3]
    have := hpp .sCap
    simp at this
    simp [State.highestPending, h1]
    exact this

end Sys2Proof.Machine
end

