-- ==== Sys2Proof/Laws/PerInstr.lean ====
section
/-! SUPPORT. Statements made per instruction: the encoder's word has the fixed bits that the opcode table gives the
operation (R95), and its operation's row is the one its OPC finds. -/

namespace Sys2Proof.Laws.EncodeMatchesTable

/-- The operation's row is the one found by its OPC, and its word has the row's fixed bits. -/
def Statement (i : Instr) : Prop := ∃ r, rowOf i.opc = some r ∧ encode i &&& r.mask = r.pattern

/-- A word and a mask of the same fields, field by field. -/
theorem fields_and (o mo : BitVec 8) (a ma b mb : BitVec 16) :
    (o ++ a ++ b) &&& (mo ++ ma ++ mb) = (o &&& mo) ++ (a &&& ma) ++ (b &&& mb) := by
  rw [BitVec.and_append, BitVec.and_append]

/-- A message operand has no bit above bit 13 (R93). -/
theorem msg_and (m : Message) : m.setWidth 16 &&& 0xC000#16 = 0#16 := by
  ext i hi
  interval_cases i <;> simp

/-- The fixed bits of an extractor's word (R93, R95). -/
theorem msg_word (o : BitVec 8) (m : Message) :
    (o ++ m.setWidth 16 ++ 0#16) &&& (0xFF#8 ++ 0xC000#16 ++ 0xFFFF#16) = (o &&& 0xFF) ++ 0#16 ++ 0#16 := by
  rw [fields_and, msg_and]
  simp

theorem tbRdclk : Statement .tbRdclk := ⟨_, rfl, by decide⟩
theorem tbElapsed (later earlier : Operand) : Statement (.tbElapsed later earlier) :=
  ⟨_, rfl, (fields_and 0x02 0xFF later 0 earlier 0).trans (by simp)⟩
theorem tbT2us (ticks : Operand) : Statement (.tbT2us ticks) :=
  ⟨_, rfl, (fields_and 0x03 0xFF ticks 0 0 0xFFFF).trans (by simp)⟩
theorem tbUs2t (us : BitVec 32) : Statement (.tbUs2t us) :=
  ⟨_, rfl, (fields_and 0x04 0xFF (us.extractLsb' 16 16) 0 (us.extractLsb' 0 16) 0).trans (by simp)⟩
theorem sStart : Statement .sStart := ⟨_, rfl, by decide⟩
theorem sPoll : Statement .sPoll := ⟨_, rfl, by decide⟩
theorem sRdtemp : Statement .sRdtemp := ⟨_, rfl, by decide⟩
theorem sRdhum : Statement .sRdhum := ⟨_, rfl, by decide⟩
theorem rInit (v : Bool) : Statement (.rInit v) := ⟨_, rfl, by cases v <;> decide⟩
theorem rEnable : Statement .rEnable := ⟨_, rfl, by decide⟩
theorem rDisable : Statement .rDisable := ⟨_, rfl, by decide⟩
theorem rToggle (m : Message) : Statement (.rToggle m) := ⟨_, rfl, (msg_word 0x28 m).trans (by decide)⟩
theorem rAddr (m : Message) : Statement (.rAddr m) := ⟨_, rfl, (msg_word 0x29 m).trans (by decide)⟩
theorem rCmd (m : Message) : Statement (.rCmd m) := ⟨_, rfl, (msg_word 0x2A m).trans (by decide)⟩
theorem rExtcmd (m : Message) : Statement (.rExtcmd m) := ⟨_, rfl, (msg_word 0x2B m).trans (by decide)⟩
theorem evTick : Statement .evTick := ⟨_, rfl, by decide⟩
theorem evSline (v : Bool) : Statement (.evSline v) := ⟨_, rfl, by cases v <;> decide⟩
theorem evRline (v : Bool) : Statement (.evRline v) := ⟨_, rfl, by cases v <;> decide⟩
theorem evReset : Statement .evReset := ⟨_, rfl, by decide⟩

end Sys2Proof.Laws.EncodeMatchesTable
end

