-- ==== Sys2Proof/Tests/Slice0.lean ====
section
/-! SUPPORT. Tests. Expected values come from spec/95_test_vectors.md (its row numbers stand beside them) and from the
rules' own examples; the `witness` theorems show that each statement's hypotheses can be met, at the bounds of their
ranges. -/

namespace Sys2Proof.Tests

open Sys2Proof.Machine

/-! ## Small states -/

/-- The state an outcome answers. -/
def reached : Host.Outcome State Fault Refusal → State
  | .next t => t
  | .fault _ => State.reset
  | .refused _ => State.reset

/-- The state after one operation. -/
def after (i : Instr) (s : State) : State := reached (exec i s)

/-- The reference configuration with another clock. -/
def clocked (hz prescaler : Nat) : Config := { Config.reference with fCpuHz := hz, prescaler := prescaler }

/-- The latency variant of the reference configuration (R266). -/
def latency : Config := { Config.reference with irqLatencyFree := true }

/-- Two independent capture channels (R35). -/
def independent : Config := { Config.reference with sharedCapture := false }

/-- A 12-bit counter, with delays that fit it. -/
def narrow : Config :=
  { Config.reference with counterBits := 12, sensorWatchdogUs := 4000, halfBitUs := 60, fullBitUs := 200, remoteTolUs := 50 }

/-- The sensor is in `st` since Tick 1000 with its watchdog running, and its line has level `line`. -/
def listening (st : SState) (pol : Polarity) (line : Level) (d : Nat) : State :=
  { State.reset with
    cnt := 1000 + d
    scap := { en := true, pf := false, icr := 1000, pol := pol }
    ocS := { ocr := 11000, oca := true, ocf := false }
    pin := { env := line, drv := false, line := line }
    sensor := { SensorDecoder.reset with state := st, phase := 1000 } }

/-- The sensor is in BitPhase with `n` bits received. -/
def collecting (n : BitVec 6) (acc : BitVec 40) (d : Nat) : State :=
  { listening .bitPhase .falling true d with
    sensor := { SensorDecoder.reset with state := .bitPhase, phase := 1000, acc := acc, cnt := n } }

/-- A reading of 35.1 degrees and 65.2 percent waits. -/
def ready : State :=
  { State.reset with sensor := { SensorDecoder.reset with state := .ready, temp := 351, hum := 652 } }

/-- The request pulse runs to Tick 1000. -/
def requesting (cnt : Nat) : State :=
  { State.reset with
    cnt := cnt
    ocS := { ocr := 1000, oca := true, ocf := false }
    pin := { env := true, drv := true, line := false }
    sensor := { SensorDecoder.reset with state := .requesting } }

/-- The remote decoder is enabled with `n` bits received, in sub-state `sub` since Tick 0. -/
def receiving (sub : RSub) (n : BitVec 4) (acc : Message) (pol : Polarity) (d : Nat) : State :=
  { State.reset with
    cnt := d
    rcap := { en := true, pf := false, icr := 0, pol := pol }
    rLine := decide (pol = .falling)
    remote := { initd := true, en := true, inv := false, sub := sub, acc := acc, cnt := n, phase := 0 } }

/-- The remote decoder waits in Error with its guard running to Tick 9000. -/
def guarded (cnt : Nat) : State :=
  { receiving .error 5 0x1D .rising cnt with ocR := { ocr := 9000, oca := true, ocf := false } }

/-- The state with a stimulus offered. -/
def offered (x : Stimulus) (s : State) : State := { s with input := [x] }

/-! ## Well-formedness: a bad configuration for each check of R12, and a bad operand (R93) -/

theorem test_reference_is_well_formed : Config.reference.wf = true := by decide
theorem test_latency_is_well_formed : latency.wf = true := by decide
theorem test_independent_is_well_formed : independent.wf = true := by decide
theorem test_narrow_is_well_formed : narrow.wf = true := by decide
theorem test_wf1_rejects_zero_bits : ({ Config.reference with counterBits := 0 } : Config).wf = false := by decide
theorem test_wf1_rejects_wide_counter : ({ Config.reference with counterBits := 17 } : Config).wf = false := by decide
theorem test_wf2_rejects_no_clock : (clocked 0 8).wf = false := by decide
theorem test_wf2_rejects_no_prescaler : (clocked 8000000 0).wf = false := by decide
theorem test_wf3_rejects_zero_request : ({ Config.reference with requestUs := 0 } : Config).wf = false := by decide
theorem test_wf3_rejects_long_watchdog :
    ({ Config.reference with sensorWatchdogUs := 65536 } : Config).wf = false := by decide
theorem test_wf3_rejects_long_guard : ({ Config.reference with counterBits := 14 } : Config).wf = false := by decide
theorem test_wf4_rejects_touching_bit_windows : ({ Config.reference with bit1Us := 67 } : Config).wf = false := by decide
theorem test_wf4_accepts_next_bit_windows : ({ Config.reference with bit1Us := 68 } : Config).wf = true := by decide
theorem test_wf5_rejects_touching_remote_windows :
    ({ Config.reference with remoteTolUs := 445 } : Config).wf = false := by decide
theorem test_wf6_rejects_crossed_response : ({ Config.reference with respMinUs := 41 } : Config).wf = false := by decide
theorem test_tick_operand_out_of_range : (Instr.tbElapsed 4096 0).wf narrow = false := by decide
theorem test_largest_tick_operand : (Instr.tbElapsed 4095 4095).wf narrow = true := by decide

/-! ## Words written out from R90, R93 and R95, and refused words (E1 to E23) -/

theorem test_decode_rdclk : decode .reference 0x0100000000#40 = .ok .tbRdclk := by decide
theorem test_decode_elapsed : decode .reference 0x02000AFFFA#40 = .ok (.tbElapsed 10 65530) := by decide
theorem test_decode_t2us : decode .reference 0x0303790000#40 = .ok (.tbT2us 889) := by decide
theorem test_decode_us2t : decode .reference 0x04000103E8#40 = .ok (.tbUs2t 66536) := by decide
theorem test_decode_start : decode .reference 0x1000000000#40 = .ok .sStart := by decide
theorem test_decode_poll : decode .reference 0x1100000000#40 = .ok .sPoll := by decide
theorem test_decode_rdtemp : decode .reference 0x1200000000#40 = .ok .sRdtemp := by decide
theorem test_decode_rdhum : decode .reference 0x1300000000#40 = .ok .sRdhum := by decide
theorem test_decode_init : decode .reference 0x2000010000#40 = .ok (.rInit true) := by decide
theorem test_decode_enable : decode .reference 0x2100000000#40 = .ok .rEnable := by decide
theorem test_decode_disable : decode .reference 0x2200000000#40 = .ok .rDisable := by decide
theorem test_decode_toggle : decode .reference 0x28394C0000#40 = .ok (.rToggle 0x394C) := by decide
theorem test_decode_addr : decode .reference 0x29394C0000#40 = .ok (.rAddr 0x394C) := by decide
theorem test_decode_cmd : decode .reference 0x2A3FFF0000#40 = .ok (.rCmd 0x3FFF) := by decide
theorem test_decode_extcmd : decode .reference 0x2B294C0000#40 = .ok (.rExtcmd 0x294C) := by decide
theorem test_decode_tick : decode .reference 0x8000000000#40 = .ok .evTick := by decide
theorem test_decode_sline : decode .reference 0x8100010000#40 = .ok (.evSline true) := by decide
theorem test_decode_rline : decode .reference 0x8200000000#40 = .ok (.evRline false) := by decide
theorem test_decode_reset : decode .reference 0x8F00000000#40 = .ok .evReset := by decide

theorem test_reserved_opcodes :
    [0x0000000000#40, 0x0500000000, 0x2300000000, 0x8300000000, 0xFF00000000].all
      (fun w => decide (decode .reference w = .error .reservedOpcode)) = true := by decide
theorem test_reserved_fields :
    [0x1000000001#40, 0x1100010000, 0x2000020000, 0x2840000000, 0x28394C0001].all
      (fun w => decide (decode .reference w = .error .reservedField)) = true := by decide
theorem test_reserved_fields_of_events :
    [0x0300010001#40, 0x8000000001, 0x8100020000, 0x8F00000001].all
      (fun w => decide (decode .reference w = .error .reservedField)) = true := by decide
theorem test_tick_range_refused : decode narrow 0x0210000000#40 = .error .tickRange := by decide
theorem test_rows_do_not_overlap :
    opcodeTable.Pairwise (fun r q => r.pattern &&& q.mask ≠ q.pattern &&& r.mask) := by decide
theorem test_table_word : decodeTableWord 40 0x29394C0000 = some (.rAddr 0x394C) := by decide
theorem test_fetch_word_runs :
    (reached (step (State.reset.withFetchWord 40 0x1000000000))).sensor.state = .requesting := by decide

/-! ## The assembler's text (R112 to R114) -/

theorem test_read_elapsed : readLine " tb.elapsed 10, 0xFFFA ; wraps" = some (.op (.tbElapsed 10 65530)) := by decide
theorem test_read_slevel : (readLine "SLEVEL 0, 2").map AsmLine.expand = some [.evSline false, .evTick, .evTick] := by decide
theorem test_read_rejects_wide_message : readLine "R.ADDR 0x4000" = none := by decide
theorem test_print_elapsed : disassemble .reference 0x02000AFFFA#40 = "TB.ELAPSED 10, 65530" := by decide
theorem test_print_addr : disassemble .reference 0x29394C0000#40 = "R.ADDR 0x394C" := by decide
theorem test_print_illegal : disassemble .reference 0x0500000000#40 = ".word40 0x0500000000" := by decide

/-! ## Timebase (T1 to T23) -/

theorem test_rdclk : (after .tbRdclk { State.reset with cnt := 1234 }).result = some 1234 := by decide
theorem test_elapsed_wraps : (after (.tbElapsed 10 65530) State.reset).result = some 16 := by decide
theorem test_elapsed_longest : (after (.tbElapsed 65535 0) State.reset).result = some 65535 := by decide
theorem test_t2us_rounds_down :
    (after (.tbT2us 159) (State.resetWith (clocked 16000000 8) [])).result = some 79 := by decide
theorem test_t2us_wide :
    (after (.tbT2us 65535) (State.resetWith (clocked 16000000 1024) [])).result = some 4194240 := by decide
theorem test_us2t_rounds_up :
    (after (.tbUs2t 27) (State.resetWith (clocked 16000000 64) [])).result = some 7 := by decide
theorem test_us2t_saturates :
    (after (.tbUs2t 0xFFFFFFFF) (State.resetWith (clocked 16000000 8) [])).result = some 0xFFFFFFFF := by decide

/-! ## Environment events (R140 to R144, D1, D2, D4, D5) -/

theorem test_tick_wraps_and_fires :
    let s := after .evTick { requesting 65535 with ocS := { ocr := 0, oca := true, ocf := false } }
    s.cnt = 0 ∧ s.sensor.state = .awaitAck ∧ s.ocS.ocr = 10000 ∧ s.pin.line = true ∧ s.out = [.sdrive false] := by decide
theorem test_watchdog_aborts :
    let s := after .evTick { listening .awaitBit .rising false 9999 with out := [.sdrive true] }
    s.sensor.state = .idle ∧ s.scap.en = false ∧ s.ocS.oca = false ∧ s.trace = [.sAbortTimeout] := by decide
theorem test_sline_while_driven_low :
    let s := after (.evSline false) (requesting 500)
    s.pin.env = false ∧ s.pin.line = false ∧ s.scap.icr = 0 ∧ s.sensor.state = .requesting := by decide
theorem test_sline_79us_ack :
    let s := after (.evSline true) (listening .ackPhase .rising false 79)
    s.sensor.state = .awaitBitStart ∧ s.scap.pol = .falling ∧ s.sensor.phase = 1079 ∧ s.scap.icr = 1079 := by decide
theorem test_rline_first_edge :
    let s := after (.evRline false) { receiving .midOne 0 0 .falling 500 with ocR := { ocr := 7, oca := false, ocf := false } }
    s.rcap.icr = 500 ∧ s.remote.phase = 500 ∧ s.remote.cnt = 1 ∧ s.remote.acc = 1 ∧ s.rcap.pol = .rising := by decide
theorem test_rline_error_entry :
    let s := after (.evRline false) (receiving .startOne 2 3 .falling 1600)
    s.remote.sub = .error ∧ s.ocR = { ocr := 28264, oca := true, ocf := false } ∧
      s.trace = [.rErrorEnter .startOne .long 1600 2] := by decide
theorem test_reset_discards :
    after .evReset { guarded 77 with out := [.msg 1], refused := true, ovrR := 3 } = State.reset := by decide

/-! ## Sensor operations (S6 to S16, C1 to C7) -/

theorem test_start_accepted :
    let s := after .sStart { State.reset with cnt := 65000 }
    s.result = some 1 ∧ s.sensor.state = .requesting ∧ s.pin.line = false ∧ s.ocS.ocr = 464 ∧ s.out = [.sdrive true] := by
  decide
theorem test_start_rejected_while_remote_enabled :
    after .sStart (receiving .midOne 0 0 .falling 0) = { receiving .midOne 0 0 .falling 0 with result := some 0 } := by decide
theorem test_poll_busy : (after .sPoll (listening .awaitBit .rising false 5)).result = some 1 := by decide
theorem test_poll_ready : (after .sPoll ready).result = some 2 := by decide
theorem test_rdtemp_negative :
    let s := after .sRdtemp { ready with sensor := { ready.sensor with temp := -101 } }
    s.result = some 0xFF9B ∧ s.sensor.state = .idle ∧ s.sensor.temp = -101 := by decide
theorem test_rdhum_ready : (after .sRdhum ready).result = some 652 ∧ (after .sRdhum ready).sensor.state = .idle := by decide
theorem test_rdhum_busy :
    let s := after .sRdhum { ready with sensor := { ready.sensor with state := .awaitBit } }
    s.result = some 652 ∧ s.sensor.state = .awaitBit := by decide
theorem test_fortieth_bit_publishes :
    let s := after (.evSline false) (collecting 39 (0x01F48065DA#40 >>> 1) 27)
    s.sensor.state = .ready ∧ s.sensor.hum = 500 ∧ s.sensor.temp = -101 ∧ s.scap.en = false ∧ s.ocS.oca = false := by decide
theorem test_bad_checksum_keeps_old_reading :
    let s := after (.evSline false) (collecting 39 (0x028C015FEF#40 >>> 1) 70)
    s.sensor.state = .idle ∧ s.sensor.hum = 0 ∧ s.trace = [.sAbortChecksum] := by decide
theorem test_checksums :
    [0x028C015FEE#40, 0x01F48065DA, 0xFFFF7FFF7C, 0x0000800080, 0x0384FFFF85].all checksumOk = true := by decide
theorem test_temperatures : [0x8065#16, 0x7FFF, 0x8000, 0xFFFF].map decodeTemp = [-101, 32767, 0, -32767] := by decide

/-! ## Remote operations (4.1 to 4.5) -/

theorem test_classes :
    [0, 444, 445, 1333, 1334, 2222, 2223].map (classify .reference) =
      [.invalid, .invalid, .short, .short, .long, .long, .invalid] := by decide
theorem test_guards : [1, 2, 12, 13].map (guardUs .reference) = [28886, 26664, 4444, 2222] := by decide
theorem test_init_inverted :
    let s := after (.rInit true) State.reset
    s.remote.initd = true ∧ s.remote.inv = true ∧ s.rcap.pol = .rising ∧ s.remote.en = false := by decide
theorem test_enable_uninitialised : after .rEnable State.reset = { State.reset with result := some 0 } := by decide
theorem test_enable_keeps_a_frame :
    (after .rEnable (receiving .midOne 6 0x2D .rising 5)) = { receiving .midOne 6 0x2D .rising 5 with result := some 1 } := by
  decide
theorem test_disable_in_error :
    let s := after .rDisable (guarded 100)
    s.remote.en = false ∧ s.rcap.en = false ∧ s.remote.cnt = 0 ∧ s.ocR.oca = false ∧ s.remote.initd = true := by decide
theorem test_toggle : (after (.rToggle 0x394C) State.reset).result = some 1 := by decide
theorem test_addr : (after (.rAddr 0x394C) State.reset).result = some 5 := by decide
theorem test_cmd : (after (.rCmd 0x394C) State.reset).result = some 12 := by decide
theorem test_extcmd_field_bit_zero : (after (.rExtcmd 0x294C) State.reset).result = some 76 := by decide
theorem test_extcmd_not_inverted :
    (after (.rExtcmd 0x394C) (State.resetWith { Config.reference with extFieldInverted := false } [])).result = some 76 := by
  decide
theorem test_message_on_fourteenth_bit :
    let s := after (.evRline true) (receiving .startZero 13 0x1CA6 .rising 889)
    s.out = [.msg 0x394C] ∧ s.trace = [.rMsg 0x394C] ∧ s.remote.cnt = 0 ∧ s.rcap.pol = .falling := by decide

/-! ## Dispatch and refusal -/

theorem test_refused_word_changes_nothing_else :
    reached (step (offered (.word 0x8F00000001) ready)) = { ready with refused := true } := by decide
theorem test_latency_capture_before_timeout :
    let s := { listening .awaitAck .falling false 10000 with
      cfg := latency, scap := { en := true, pf := true, icr := 10999, pol := .falling },
      ocS := { ocr := 11000, oca := false, ocf := true } }
    let t := reached (step (offered .dispatchSlot s))
    t.trace = [.sAbortPulse] ∧ t.ocS.ocf = false ∧ t.sensor.state = .idle := by decide
theorem test_latency_overrun :
    let s := after (.evRline false) { receiving .midOne 0 0 .falling 900 with
      cfg := latency, rcap := { en := true, pf := true, icr := 500, pol := .falling } }
    s.rcap.icr = 900 ∧ s.ovrR = 1 ∧ s.trace = [.captureOverrun .R] := by decide

/-! ## Witnesses: the hypotheses of the statements, one theorem each, named after the statement -/

theorem witness_IllFormedConfigurationGetsNoRun : ¬WellFormedConfiguration (clocked 0 8) :=
  fun h => absurd h.2.1.1 (by decide)
theorem witness_EveryStepAnswersANextState : (State.resetWith latency []).cfg.wf = true := by decide
theorem witness_StepRunsTheDecodedOperation :
    let s := offered (.word 0x02FFFFFFFF) State.reset
    s.cfg.wf = true ∧ s.input = [.word 0x02FFFFFFFF] ∧ decode s.cfg 0x02FFFFFFFF = .ok (.tbElapsed 65535 65535) := by decide
theorem witness_ExactlyTheIllegalWordsAreRefused :
    (offered (.word 0x2840000000) State.reset).cfg.wf = true ∧ IllegalWord .reference 0x2840000000 ∧
      ¬IllegalWord .reference 0x283FFF0000 := by
  refine ⟨by decide, ?_, ?_⟩ <;> unfold IllegalWord <;> decide
theorem witness_DecodeOfEncodeIsTheOperation : (Instr.tbElapsed 4095 4095).wf narrow = true := by decide
theorem witness_EncodeOfDecodeIsTheWord : decode narrow 0x020FFF0FFF#40 = .ok (.tbElapsed 4095 4095) := by decide
/-- The only premise of RdclkAnswersTheCounter, PollAnswersTheStateClass, RdhumAnswersAndConsumes,
InitStopsAndReadiesTheDecoder, DisableDiscardsTheFrame, ExtractorsAnswerTheirFields and ExtendedCommandAnswer, under eager
dispatch and in the latency variant with a source pending. -/
theorem witness_Settled :
    State.reset.Settled ∧ State.reset.highestPending = none ∧
      ({ listening .awaitAck .falling true 0 with
        cfg := latency, scap := { en := true, pf := true, icr := 0, pol := .falling } } : State).Settled := by decide
/-- In range at the bound and out of range from the bound on. -/
theorem witness_ElapsedAnswersTheDuration :
    let c := narrow
    (4095#16).toNat < c.modulus ∧ c.modulus ≤ (4096#16).toNat ∧
      (4095 : Int) = ((4095 : Int) - 0 + c.modulus) % c.modulus ∧
      4095 = 1000000 * (4095 * c.prescaler) / c.fCpuHz ∧ 4095 < 2 ^ 32 := by decide
theorem witness_T2usAnswersMicroseconds :
    65535 = 1000000 * ((65535#16).toNat * Config.reference.prescaler) / Config.reference.fCpuHz ∧ 65535 < 2 ^ 32 := by decide
theorem witness_Us2tAnswersTicks : State.reset.Settled ∧ State.reset.cfg.wf = true := by decide
theorem witness_IntervalReadsModuloTheCounter : 65535 < Config.reference.modulus := by decide
/-- The counter wraps and nothing fires; in the latency variant a channel fires. -/
theorem witness_TickCountsAndCompares :
    ({ State.reset with cnt := 0 } : State).Settled ∧
      ({ requesting 1000 with cfg := latency, ocS := { ocr := 1000, oca := false, ocf := true } } : State).Settled := by
  decide
/-- The shortest delay, before it and at it, at the wrap. -/
theorem witness_ChannelFiresOnTheArmedTick :
    latency.irqLatencyFree = true ∧ 65535 < latency.modulus ∧ 0 < usToTicks latency 1 ∧ 1 = usToTicks latency 1 ∧
      ∃ a, arm .R 1 { State.resetWith latency [] with cnt := 65535 } = .ok a := by
  refine ⟨by decide, by decide, by decide, by decide, _, rfl⟩
theorem witness_StartAcceptedOrIgnored :
    let busyRemote := receiving .midOne 0 0 .falling 0
    (State.reset.cfg.wf = true ∧ State.reset.Settled ∧ State.reset.sensor.state = .idle ∧ State.reset.remote.en = false) ∧
      (ready.Settled ∧ ready.sensor.state ≠ .idle) ∧
      (busyRemote.Settled ∧ busyRemote.cfg.sharedCapture = true ∧ busyRemote.remote.en = true) := by decide
theorem witness_RdtempAnswersAndConsumes :
    let s := { ready with sensor := { ready.sensor with temp := -32767 } }
    s.Settled ∧ -32768 ≤ s.sensor.temp ∧ s.sensor.temp < 32768 := by decide
theorem witness_SensorLevelWithoutACapture :
    let s := listening .ackPhase .rising true 5
    s.Settled ∧ ¬((false && !s.pin.drv) ≠ s.pin.line ∧ s.scap.en = true ∧ edgeTo (false && !s.pin.drv) = s.scap.pol) := by
  decide
theorem witness_SensorEdgeIsLatched :
    let s := { listening .ackPhase .rising false 5 with cfg := latency }
    s.cfg.irqLatencyFree = true ∧ s.scap.en = true ∧ (true && !s.pin.drv) ≠ s.pin.line ∧
      edgeTo (true && !s.pin.drv) = s.scap.pol := by decide
theorem witness_RequestEndsInListening :
    let s := requesting 999
    s.cfg.wf = true ∧ s.cfg.irqLatencyFree = false ∧ s.highestPending = none ∧ s.SensorInv ∧
      1000 = (s.cnt + 1) % s.cfg.modulus ∧ s.sensor.state = .requesting ∧ s.ocS.oca = true ∧ s.ocS.ocr = 1000 ∧
      ¬(s.ocR.oca = true ∧ s.ocR.ocr = 1000) := by decide
theorem witness_WatchdogAborts :
    let s := listening .bitPhase .falling true 9999
    s.cfg.irqLatencyFree = false ∧ s.highestPending = none ∧ s.SensorInv ∧ 11000 = (s.cnt + 1) % s.cfg.modulus ∧
      s.sensor.state ≠ .idle ∧ s.sensor.state ≠ .requesting ∧ s.sensor.state ≠ .ready ∧
      s.ocS.oca = true ∧ s.ocS.ocr = 11000 ∧ ¬(s.ocR.oca = true ∧ s.ocR.ocr = 11000) := by decide
/-- Each state's window at both bounds and just outside (3.1). -/
theorem witness_PhaseWindowsAdvanceOrAbort :
    (∀ d ∈ [0, 60, 61], (listening .awaitAck .falling true d).SeesSensorEdge false ∧
      (listening .awaitAck .falling true d).SensorInv) ∧
    (∀ d ∈ [59, 60, 100, 101], (listening .ackPhase .rising false d).SeesSensorEdge true ∧
      (listening .awaitBitStart .falling true d).SeesSensorEdge false) ∧
    (∀ d ∈ [29, 30, 70, 71], (listening .awaitBit .rising false d).SeesSensorEdge true ∧
      elapsed .reference (listening .awaitBit .rising false d).cnt 1000 = d) ∧
    [SState.awaitAck, .ackPhase, .awaitBitStart, .awaitBit].map (phaseRow .reference) =
      [some (0, 60, .ackPhase), some (60, 100, .awaitBitStart), some (60, 100, .awaitBit), some (30, 70, .bitPhase)] := by
  decide
/-- Both bit windows at their bounds, and the gap between them (3.1). -/
theorem witness_BitIsAppendedOrAborts :
    ∀ d ∈ [6, 7, 47, 48, 49, 50, 90, 91],
      (collecting 38 0x3FFFFFFFFF d).cfg.wf = true ∧ (collecting 38 0x3FFFFFFFFF d).SeesSensorEdge false ∧
      (collecting 38 0x3FFFFFFFFF d).SensorInv ∧ elapsed .reference (collecting 38 0x3FFFFFFFFF d).cnt 1000 = d := by decide
/-- The last bit, a 0, for a right checksum and for a wrong one. -/
theorem witness_FortiethBitPublishesOrRejects (f : BitVec 40) (hf : f = 0x028C015FEE ∨ f = 0x028C015FEC) :
    let s := collecting 39 (f >>> 1) 27
    s.SeesSensorEdge false ∧ s.SensorInv ∧ s.sensor.state = .bitPhase ∧ s.sensor.cnt.toNat = 39 ∧
      elapsed s.cfg s.cnt s.sensor.phase = 27 ∧ f = (s.sensor.acc <<< 1) ||| (if false then 1 else 0) := by
  rcases hf with rfl | rfl <;> exact ⟨by decide, by decide, rfl, rfl, by decide, by decide⟩

/-- The captured Ticks of the last `k` bits of a nominal reply (R181), from the falling edge at `last`. -/
def nominalBits (frame : BitVec 40) : Nat → Nat → List Nat
  | 0, _ => []
  | k + 1, last =>
    (last + 50) :: (last + 50 + (if frame.getLsbD k then 70 else 27)) ::
      nominalBits frame k (last + 50 + (if frame.getLsbD k then 70 else 27))

theorem elapsed_reference (a d : Nat) (h : d < 65536) : elapsed .reference (a + d) a = d := by
  have e : elapsedTicks .reference (a + d) a = d := by
    unfold elapsedTicks
    have m : (Config.reference.modulus : Int) = 65536 := by decide
    rw [m]
    omega
  rw [elapsed, e, ticksToUs]
  simp [Config.reference]
  omega

theorem nominal_bits (frame : BitVec 40) : ∀ k last, SensorBits .reference frame k last (nominalBits frame k last)
  | 0, _ => rfl
  | k + 1, last => by
    refine ⟨_, _, _, rfl, ?_, ?_, nominal_bits frame k _⟩
    · rw [elapsed_reference _ _ (by decide)]; decide
    · cases frame.getLsbD k <;> simp only [if_true, if_false, Bool.false_eq_true]
      · rw [elapsed_reference _ _ (by decide)]; decide
      · rw [elapsed_reference _ _ (by decide)]; decide

/-- The nominal reply of programs P2 and P8 (R181). -/
theorem witness_SensorReplyRoundTrip :
    let s := listening .awaitAck .falling true 0
    (s.sensor.state = .awaitAck ∧ s.sensor.acc = 0 ∧ s.sensor.cnt = 0 ∧ s.pin.drv = false) ∧
    (winResp s.cfg (elapsed s.cfg 1030 s.sensor.phase) = true ∧ winAck s.cfg (elapsed s.cfg 1110 1030) = true ∧
      winDstart s.cfg (elapsed s.cfg 1190 1110) = true) ∧
    (SensorBits s.cfg 0x028C015FEE 40 1190 (nominalBits 0x028C015FEE 40 1190) ∧ checksumOk 0x028C015FEE = true) ∧
    (SensorBits s.cfg 0x028C015FEF 40 1190 (nominalBits 0x028C015FEF 40 1190) ∧ checksumOk 0x028C015FEF = false) :=
  ⟨by decide, by decide, ⟨nominal_bits _ _ _, by decide⟩, nominal_bits _ _ _, by decide⟩
/-- Before the end of the request and at it. -/
theorem witness_RequestPulseLastsItsTicks :
    State.reset.cfg.wf = true ∧ State.reset.cfg.irqLatencyFree = false ∧ State.reset.Inv ∧
      999 < usToTicks State.reset.cfg State.reset.cfg.requestUs ∧
      1000 = usToTicks State.reset.cfg State.reset.cfg.requestUs ∧
      ∃ a, exec .sStart State.reset = .next a ∧ a.result = some 1 :=
  ⟨by decide, by decide, by decide, by decide, by decide, _, rfl, rfl⟩
/-- The four cases of R211. -/
theorem witness_EnableCases :
    let i := { State.reset with remote := { RemoteDecoder.reset with initd := true } }
    let b := { listening .awaitBit .rising false 5 with remote := { RemoteDecoder.reset with initd := true } }
    (State.reset.Settled ∧ State.reset.remote.initd = false) ∧
      ((receiving .midOne 6 0x2D .rising 5).Settled ∧ (receiving .midOne 6 0x2D .rising 5).remote.en = true) ∧
      (b.Settled ∧ b.remote.en = false ∧ b.cfg.sharedCapture = true ∧ b.sensor.state.busy = true) ∧
      (i.Settled ∧ i.remote.initd = true ∧ i.remote.en = false ∧ i.sensor.state.busy = false) := by decide
theorem witness_RemoteLevelWithoutACapture :
    let s := receiving .midOne 1 1 .rising 5
    s.Settled ∧ ¬(false ≠ s.rLine ∧ s.rcap.en = true ∧ edgeTo false = s.rcap.pol) := by decide
theorem witness_RemoteEdgeIsLatched :
    let s := { receiving .midOne 1 1 .rising 5 with cfg := latency }
    s.cfg.irqLatencyFree = true ∧ s.rcap.en = true ∧ true ≠ s.rLine ∧ edgeTo true = s.rcap.pol := by decide
theorem witness_PulseClassesByTheirWindows : Config.reference.wf = true := by decide
theorem witness_FirstEdgeSeedsMidOne :
    (receiving .midOne 0 0 .falling 500).SeesRemoteEdge false ∧ (receiving .midOne 0 0 .falling 500).remote.cnt = 0 := by
  decide
/-- A Start state and both Mid states, with the fewest bits and with the most. -/
theorem witness_FrameEdgeFollowsTheTable :
    ∀ n ∈ [1#4, 12, 13], (receiving .midOne n 1 .rising 445).SeesRemoteEdge true ∧ 1 ≤ n.toNat ∧ n.toNat ≤ 13 ∧
      nextSub .midOne (classify .reference (elapsed .reference 445 0)) = .startOne ∧
      nextSub .midOne (classify .reference (elapsed .reference 2222 0)) = .midZero ∧
      nextSub .startOne (classify .reference (elapsed .reference 1333 0)) = .midOne := by decide
theorem witness_FourteenthBitEmitsTheMessage :
    let s := receiving .startZero 13 0x1CA6 .rising 889
    s.SeesRemoteEdge true ∧ s.remote.cnt.toNat = 13 ∧ s.remote.sub ≠ .error ∧
      nextSub s.remote.sub (classify s.cfg (elapsed s.cfg s.cnt s.remote.phase)) = .midZero ∧
      nextSub .startOne (classify s.cfg (elapsed s.cfg s.cnt s.remote.phase)) = .midOne ∧
      0x394C#14 = (s.remote.acc <<< 1) ||| (if false then 1 else 0) := by decide
theorem witness_BadIntervalEntersError :
    ∀ n ∈ [1#4, 13], (receiving .startOne n 1 .falling 1334).cfg.wf = true ∧
      (receiving .startOne n 1 .falling 1334).SeesRemoteEdge false ∧ 1 ≤ n.toNat ∧ n.toNat ≤ 13 ∧
      nextSub .startOne (classify .reference (elapsed .reference 1334 0)) = .error := by decide
theorem witness_EdgeInErrorRestartsTheGuard :
    ∀ n ∈ [1#4, 13], (receiving .error n 1 .falling 9).SeesRemoteEdge false ∧
      (receiving .error n 1 .falling 9).remote.sub = .error ∧ 1 ≤ n.toNat ∧ n.toNat ≤ 13 := by decide
theorem witness_GuardResetsTheFrame :
    let s := guarded 8999
    s.cfg.irqLatencyFree = false ∧ s.highestPending = none ∧ 9000 = (s.cnt + 1) % s.cfg.modulus ∧
      s.remote.sub = .error ∧ s.ocR.oca = true ∧ s.ocR.ocr = 9000 ∧ ¬(s.ocS.oca = true ∧ s.ocS.ocr = 9000) := by decide

/-- The captured Ticks of the last `k` bits of a nominal biphase frame (R227), from the middle edge of `prev` at `last`. -/
def nominalBiphase (m : Message) : Nat → Bool → Nat → List Nat
  | 0, _, _ => []
  | k + 1, prev, last =>
    if m.getLsbD k = prev then (last + 889) :: (last + 889 + 889) :: nominalBiphase m k (m.getLsbD k) (last + 889 + 889)
    else (last + 1778) :: nominalBiphase m k (m.getLsbD k) (last + 1778)

theorem nominal_biphase (m : Message) :
    ∀ k prev last, BiphaseBits .reference m k prev last (nominalBiphase m k prev last)
  | 0, _, _ => rfl
  | k + 1, prev, last => by
    by_cases h : m.getLsbD k = prev
    · refine .inl ⟨h, _, _, _, if_pos h, ?_, ?_, nominal_biphase m k _ _⟩ <;>
        rw [elapsed_reference _ _ (by decide)] <;> decide
    · refine .inr ⟨h, _, _, if_neg h, ?_, nominal_biphase m k _ _⟩
      rw [elapsed_reference _ _ (by decide)]
      decide

/-- The frame of program P4. -/
theorem witness_RemoteFrameRoundTrip :
    (receiving .midOne 0 0 .falling 0).remote.cnt = 0 ∧ (0x394C#14).getLsbD 13 = true ∧
      BiphaseBits (receiving .midOne 0 0 .falling 0).cfg 0x394C 13 true 700 (nominalBiphase 0x394C 13 true 700) :=
  ⟨by decide, by decide, nominal_biphase _ _ _ _⟩
/-- A dispatch place with each source the first pending one, and with none pending. -/
theorem witness_DispatchStepTakesOneSource :
    let s := offered .dispatchSlot { State.reset with cfg := latency }
    let on : CaptureUnit := { en := true, pf := true, icr := 0, pol := .falling }
    let fired : CompareChannel := { ocr := 0, oca := false, ocf := true }
    s.cfg.wf = true ∧ s.cfg.irqLatencyFree = true ∧ s.input = [.dispatchSlot] ∧ s.highestPending = none ∧
      ({ s with scap := on, rcap := on, ocS := fired, ocR := fired } : State).highestPending = some .sCap ∧
      ({ s with rcap := on, ocS := fired } : State).highestPending = some .rCap ∧
      ({ s with ocS := fired, ocR := fired } : State).highestPending = some .sOc ∧
      ({ s with ocR := fired } : State).highestPending = some .rOc := by decide
theorem witness_HandlersOfTheTwoDecodersCommute :
    let s := { requesting 1000 with remote := (guarded 0).remote }
    ∃ a b ab ba, take .sOc s = .ok a ∧ take .rOc a = .ok ab ∧ take .rOc s = .ok b ∧ take .sOc b = .ok ba :=
  ⟨_, _, _, _, rfl, rfl, rfl, rfl⟩
theorem witness_OneTickFiresBothChannels :
    let s := { requesting 999 with
      cfg := independent, remote := (guarded 0).remote, rcap := (guarded 0).rcap, rLine := (guarded 0).rLine
      ocR := { ocr := 1000, oca := true, ocf := false } }
    s.cfg.wf = true ∧ s.Inv ∧ s.cfg.irqLatencyFree = false ∧ 1000 = (s.cnt + 1) % s.cfg.modulus ∧
      s.ocS.oca = true ∧ s.ocS.ocr = 1000 ∧ s.ocR.oca = true ∧ s.ocR.ocr = 1000 :=
  ⟨by decide, ⟨by decide, by decide, by decide, by decide, by decide, by decide, by decide⟩, by decide⟩
/-- A state inside a frame, with a step that moves it. -/
theorem witness_EveryStepKeepsTheInvariants :
    (offered (.word 0x8200010000) (receiving .midOne 6 0x2D .rising 889)).Inv ∧
      ∃ t, step (offered (.word 0x8200010000) (receiving .midOne 6 0x2D .rising 889)) = .next t :=
  ⟨by decide, _, rfl⟩
theorem witness_NoStepChangesTheConfiguration : ∃ t, step (offered (.word 0x8F00000000) ready) = .next t := ⟨_, rfl⟩
theorem witness_OutputsGrowAndRefusedSticks :
    (offered (.word 0x8F00000001) { ready with refused := true }).NoResetNext ∧
      ∃ t, step (offered (.word 0x8F00000001) { ready with refused := true }) = .next t :=
  ⟨by decide, _, rfl⟩
theorem witness_OnlyIllegalWordsAreRefused :
    (offered (.word 0) ready).Inv ∧ (offered (.word 0) ready).refused = false ∧
      ∃ t, step (offered (.word 0) ready) = .next t ∧ t.refused = true :=
  ⟨by decide, by decide, _, rfl, rfl⟩
theorem witness_OnlyTickAndResetMoveTheCounter :
    (∃ t, step (offered (.word 0x8000000000) { State.reset with cnt := 65535 }) = .next t ∧ t.cnt ≠ 65535) ∧
      ∃ t, step (offered (.word 0x8F00000000) { State.reset with cnt := 65535 }) = .next t ∧ t.cnt ≠ 65535 :=
  ⟨⟨_, rfl, by decide⟩, _, rfl, by decide⟩
theorem witness_NoOverrunUnderEagerDispatch :
    let s := offered (.word 0x8200010000) (receiving .midOne 6 0x2D .rising 889)
    s.cfg.irqLatencyFree = false ∧ s.Inv ∧ s.NoResetNext ∧ ∃ t, step s = .next t :=
  ⟨by decide, by decide, by decide, _, rfl⟩
theorem witness_ReadingChangesOnlyOnACompleteFrame :
    let s := offered (.word 0x8100000000) (collecting 39 (0x01F48065DA#40 >>> 1) 27)
    s.NoResetNext ∧ ∃ t, step s = .next t ∧ t.sensor.hum ≠ s.sensor.hum :=
  ⟨by decide, _, rfl, by decide⟩
theorem witness_MessageOnlyFromFourteenBits :
    let s := offered (.word 0x8200010000) (receiving .startZero 13 0x1CA6 .rising 889)
    s.Inv ∧ s.NoResetNext ∧ ∃ t, step s = .next t ∧ s.out.count (.msg 0x394C) < t.out.count (.msg 0x394C) :=
  ⟨by decide, by decide, _, rfl, by decide⟩
theorem witness_DecodersLeaveEachOtherAlone :
    (listening .ackPhase .rising false 79).Settled ∧ (∃ t, exec (.evSline true) (listening .ackPhase .rising false 79) = .next t) ∧
      ∃ t, exec (.rInit true) (listening .ackPhase .rising false 79) = .next t :=
  ⟨by decide, ⟨_, rfl⟩, _, rfl⟩

end Sys2Proof.Tests
end

section
/-! PROOFS. What the decoder answers, and how a step begins (R12, R17, R110). -/

namespace Sys2Proof.Machine

/-! ## Words -/

/-- The fields of a command word make it up (R90). -/
theorem fields_append (w : CommandWord) : opcField w ++ aField w ++ bField w = w := by
  have hoa : opcField w ++ aField w = w.extractLsb' 16 24 :=
    BitVec.extractLsb'_append_extractLsb'_eq_extractLsb' rfl
  have hall : w.extractLsb' 16 24 ++ bField w = w.extractLsb' 0 40 :=
    BitVec.extractLsb'_append_extractLsb'_eq_extractLsb' rfl
  rw [hoa, hall, BitVec.extractLsb'_eq_self]

/-- A word with its operand bits cleared is its OPC followed by zeros. -/
theorem and_opcMask (w : CommandWord) : w &&& 0xFF00000000#40 = opcField w ++ 0#16 ++ 0#16 :=
  calc w &&& 0xFF00000000#40
      = (opcField w ++ aField w ++ bField w) &&& (0xFF#8 ++ 0#16 ++ 0#16) := by rw [fields_append]; rfl
    _ = (opcField w &&& BitVec.allOnes 8) ++ (aField w &&& 0#16) ++ (bField w &&& 0#16) :=
        Laws.EncodeMatchesTable.fields_and ..
    _ = opcField w ++ 0#16 ++ 0#16 := by rw [BitVec.and_allOnes, BitVec.and_zero, BitVec.and_zero]

/-- In every row of the opcode table the mask is OPC and zero_mask, and the match has no operand bit (R95, R110). -/
theorem opcodeTable_mask_pattern : ∀ r ∈ opcodeTable,
    r.mask = 0xFF00000000#40 ||| r.zeroMask ∧ r.pattern = opcField r.pattern ++ 0#16 ++ 0#16 := by decide

/-- The row that an OPC finds is in the table and has this OPC. -/
theorem rowOf_eq_some {opc : BitVec 8} {r : OpcodeRow} (h : rowOf opc = some r) :
    r ∈ opcodeTable ∧ opcField r.pattern = opc :=
  ⟨List.mem_of_find?_eq_some h, by simpa using List.find?_some h⟩

/-- A word whose row is `r` and whose reserved bits are 0 has the row's fixed bits (R110). -/
theorem and_mask_eq_pattern {w : CommandWord} {r : OpcodeRow} (hr : rowOf (opcField w) = some r)
    (hz : w &&& r.zeroMask = 0#40) : w &&& r.mask = r.pattern := by
  obtain ⟨hmem, hopc⟩ := rowOf_eq_some hr
  obtain ⟨hmask, hpattern⟩ := opcodeTable_mask_pattern r hmem
  calc w &&& r.mask
      = (w &&& 0xFF00000000#40) ||| (w &&& r.zeroMask) := by rw [hmask, BitVec.and_or_distrib_left]
    _ = opcField w ++ 0#16 ++ 0#16 := by rw [and_opcMask, hz, BitVec.or_zero]
    _ = r.pattern := by rw [hpattern, hopc]

/-- All that decode can do when it accepts a word (R110). -/
theorem decode_eq_ok {c : Config} {w : CommandWord} {i : Instr} (h : decode c w = .ok i) :
    ∃ r ∈ opcodeTable, w &&& r.mask = r.pattern ∧ i = r.op.build (aField w) (bField w) ∧ i.wf c = true := by
  unfold decode at h
  split at h
  · cases h
  · rename_i r hr
    split at h
    · cases h
    · rename_i hz
      split at h
      · cases h
        exact ⟨r, (rowOf_eq_some hr).1, and_mask_eq_pattern hr (not_not.mp hz), rfl, ‹_›⟩
      · cases h

/-- An operation that only one row builds, from a word that this row fixes whole, has only that word. -/
theorem eq_pattern_of_decode {c : Config} {w p : CommandWord} {i : Instr} {op : Opcode}
    (hrow : ∀ r ∈ opcodeTable, r.op = op → r.mask = BitVec.allOnes 40 ∧ r.pattern = p)
    (hbuild : ∀ (o : Opcode) a b, o.build a b = i → o = op) (h : decode c w = .ok i) : w = p := by
  obtain ⟨r, hmem, hw, hi, -⟩ := decode_eq_ok h
  obtain ⟨hmask, hpattern⟩ := hrow r hmem (hbuild _ _ _ hi.symm)
  rwa [hmask, hpattern, BitVec.and_allOnes] at hw

/-- Only one word is `EV.TICK` (R95). -/
theorem eq_of_decode_evTick {c : Config} {w : CommandWord} (h : decode c w = .ok .evTick) : w = 0x8000000000#40 :=
  eq_pattern_of_decode (op := .evTick) (by decide) (fun o _ _ ho => by cases o <;> simp [Opcode.build] at ho ⊢) h

/-- Only one word is `EV.RESET` (R95). -/
theorem eq_of_decode_evReset {c : Config} {w : CommandWord} (h : decode c w = .ok .evReset) : w = 0x8F00000000#40 :=
  eq_pattern_of_decode (op := .evReset) (by decide) (fun o _ _ ho => by cases o <;> simp [Opcode.build] at ho ⊢) h

/-! ## The beginning of a step -/

/-- Under an ill-formed configuration a step is refused, whatever the stimulus (R12). -/
theorem step_of_illFormed {s : State} (h : s.cfg.wf = false) : step s = .refused .illFormedConfiguration := by
  simp [step, h]

/-- Under a well-formed configuration a step gives its stimulus its meaning, on the state without it (R17). -/
theorem step_of_input {s : State} {x : Stimulus} {rest : List Stimulus} (hwf : s.cfg.wf = true)
    (hin : s.input = x :: rest) : step s = runStimulus x { s with input := rest } := by
  simp [step, hwf, fetch, hin]

/-- A word that decodes runs its operation (R260). -/
theorem runStimulus_of_decode {s : State} {w : CommandWord} {i : Instr} (h : decode s.cfg w = .ok i) :
    runStimulus (.word w) s = exec i s := by
  simp [runStimulus, h]

/-- Settles O6: the step consumes the word, and the word runs what it decodes to. -/
theorem stepRunsTheDecodedOperation : Obligations.StepRunsTheDecodedOperation := by
  intro s w rest i hwf hin hd
  rw [step_of_input hwf hin]
  exact runStimulus_of_decode hd

end Sys2Proof.Machine
end

section
/-! PROOFS. The checks of a configuration against R12. -/

namespace Sys2Proof.Machine

theorem wf1_iff {c : Config} : wf1 c = true ↔ 1 ≤ c.counterBits ∧ c.counterBits ≤ 16 := by simp [wf1]

theorem wf2_iff {c : Config} : wf2 c = true ↔ 1 ≤ c.fCpuHz ∧ 1 ≤ c.prescaler := by simp [wf2]

theorem schedulable_iff {c : Config} {u : Nat} :
    schedulable c u = true ↔ 1 ≤ usToTicks c u ∧ usToTicks c u ≤ c.modulus - 1 := by simp [schedulable]

/-- The delays of WF3: the request, the watchdog, and the guards for 1 to 13 bits left (R12). -/
theorem mem_armedDelays {c : Config} {u : Nat} :
    u ∈ armedDelays c ↔ u = c.requestUs ∨ u = c.sensorWatchdogUs ∨
      ∃ k : Nat, 1 ≤ k ∧ k ≤ 13 ∧ u = k * (c.fullBitUs + c.remoteTolUs) := by
  simp only [armedDelays, List.mem_cons, List.mem_map, List.mem_range, Config.frameBits]
  refine or_congr_right (or_congr_right ⟨?_, ?_⟩)
  · rintro ⟨j, hj, rfl⟩
    exact ⟨j + 1, by omega, by omega, rfl⟩
  · rintro ⟨k, h1, h13, rfl⟩
    exact ⟨k - 1, by omega, by rw [Nat.sub_add_cancel h1]⟩

theorem wf3_iff {c : Config} :
    wf3 c = true ↔ ∀ u : Nat, (u = c.requestUs ∨ u = c.sensorWatchdogUs ∨
        ∃ k : Nat, 1 ≤ k ∧ k ≤ 13 ∧ u = k * (c.fullBitUs + c.remoteTolUs)) →
      1 ≤ usToTicks c u ∧ usToTicks c u ≤ c.modulus - 1 := by
  simp only [wf3, List.all_eq_true, mem_armedDelays, schedulable_iff]

/-- WF4 with the integer difference that R12 writes. -/
theorem wf4_iff {c : Config} : wf4 c = true ↔ (c.bit0Us : Int) + c.sensorTolUs < c.bit1Us - c.sensorTolUs := by
  rw [wf4, decide_eq_true_iff]
  omega

/-- WF5 with the integer difference that R12 writes. -/
theorem wf5_iff {c : Config} : wf5 c = true ↔ (c.halfBitUs : Int) + c.remoteTolUs < c.fullBitUs - c.remoteTolUs := by
  rw [wf5, decide_eq_true_iff]
  omega

theorem wf6_iff {c : Config} : wf6 c = true ↔ c.respMinUs ≤ c.respMaxUs := by simp [wf6]

/-- The check of a configuration is R12. -/
theorem wf_iff {c : Config} : c.wf = true ↔ WellFormedConfiguration c := by
  simp only [Config.wf, Bool.and_eq_true, wf1_iff, wf2_iff, wf3_iff, wf4_iff, wf5_iff, wf6_iff, WellFormedConfiguration,
    and_assoc]

/-- Settles O4: `Config.wf` is R12 check by check, and `step` asks it first. -/
theorem illFormedConfigurationGetsNoRun : Obligations.IllFormedConfigurationGetsNoRun := by
  intro s
  refine ⟨wf_iff, fun h => step_of_illFormed ?_⟩
  rwa [← Bool.not_eq_true, wf_iff]

end Sys2Proof.Machine
end

section
/-! PROOFS. Which operations move the counter (R33). -/

namespace Sys2Proof.Machine

/-- The end of an operation does not move the counter. -/
theorem settle_cnt {s t : State} (h : settle s = .ok t) : t.cnt = s.cnt := by
  refine settle_keeps (P := fun u => u.cnt = s.cnt) ?_ rfl h
  intro src u v hu _ htake
  obtain ⟨-, -, -, hcnt, -⟩ := take_common htake
  exact hcnt.trans hu

/-- What an operation that ends in `b` can leave in the counter: the value in `b`, or the old one when it is refused. -/
theorem commit_settle_cnt {s b t : State} (h : commit s (settle b) = .next t) : t.cnt = b.cnt ∨ t.cnt = s.cnt := by
  rcases commit_cases h with h | rfl
  · exact .inl (settle_cnt h)
  · exact .inr rfl

/-- A host operation whose own effect keeps the counter keeps it. -/
theorem respond_cnt {s b t : State} {r : ResultWord} (hb : b.cnt = s.cnt) (h : respond s b r = .next t) :
    t.cnt = s.cnt :=
  (commit_settle_cnt (b := { b with result := some r }) h).elim (·.trans hb) id

/-- An environment event leaves the counter as its own effect has it, or is refused and keeps it. -/
theorem conclude_cnt {s b t : State} (h : conclude s b = .next t) : t.cnt = b.cnt ∨ t.cnt = s.cnt :=
  commit_settle_cnt (b := { b with result := none }) h

theorem presentS_cnt (v : Level) (s : State) : (presentS v s).cnt = s.cnt := (lineUpdateS_side _).cnt

theorem latchR_cnt (e : Polarity) (s : State) : (latchR e s).cnt = s.cnt := by
  rcases latchR_cases e s with h | ⟨_, _, _, h⟩ | ⟨_, _, _, h⟩ <;> rw [h]

theorem presentR_cnt (v : Level) (s : State) : (presentR v s).cnt = s.cnt := by
  unfold presentR
  split
  · rfl
  · exact latchR_cnt _ _

theorem consume_cnt (s : State) : (consume s).cnt = s.cnt := by rw [consume_eq]

/-- An accepted `S.START` does not move the counter. -/
theorem execSStart_cnt {s t : State} (h : execSStart s = .next t) : t.cnt = s.cnt := by
  unfold execSStart at h
  split at h
  · cases harm : arm .S s.cfg.requestUs (beginRequest s) with
    | error e =>
      rw [harm] at h
      cases h
      rfl
    | ok u =>
      rw [harm] at h
      have hu : u.cnt = s.cnt := by rw [(arm_S_side harm).cnt, beginRequest_eq]
      exact (commit_settle_cnt (b := { u with result := some 1 }) h).elim (·.trans hu) id
  · exact respond_cnt rfl h

theorem execREnable_cnt {s t : State} (h : execREnable s = .next t) : t.cnt = s.cnt := by
  unfold execREnable at h
  split at h
  · exact respond_cnt rfl h
  split at h
  · exact respond_cnt rfl h
  split at h
  · exact respond_cnt rfl h
  · exact respond_cnt (b := remoteOn s) rfl h

theorem execTbElapsed_cnt {later earlier : Operand} {s t : State} (h : execTbElapsed later earlier s = .next t) :
    t.cnt = s.cnt := by
  unfold execTbElapsed at h
  split at h
  · exact respond_cnt rfl h
  · cases h
    rfl

/-- All that an operation can do to the counter (R33): only `EV.TICK` counts and only `EV.RESET` clears it. -/
theorem exec_cnt {i : Instr} {s t : State} (h : exec i s = .next t) :
    t.cnt = s.cnt ∨ (i = .evTick ∧ t.cnt = addTicks s.cfg s.cnt 1) ∨ (i = .evReset ∧ t.cnt = 0) := by
  cases i with
  | evTick => exact (conclude_cnt h).symm.imp_right fun hcnt => .inl ⟨rfl, hcnt⟩
  | evReset =>
    cases h
    exact .inr (.inr ⟨rfl, rfl⟩)
  | evSline v => exact .inl ((conclude_cnt h).elim (·.trans (presentS_cnt v s)) id)
  | evRline v => exact .inl ((conclude_cnt h).elim (·.trans (presentR_cnt v s)) id)
  | sStart => exact .inl (execSStart_cnt h)
  | rEnable => exact .inl (execREnable_cnt h)
  | tbElapsed later earlier => exact .inl (execTbElapsed_cnt h)
  | sRdtemp | sRdhum => exact .inl (respond_cnt (consume_cnt s) h)
  | rInit p => exact .inl (respond_cnt (b := initialise p s) rfl h)
  | rDisable => exact .inl (respond_cnt (b := frameReset (remoteOff s)) rfl h)
  | tbRdclk | tbT2us | tbUs2t | sPoll | rToggle | rAddr | rCmd | rExtcmd => exact .inl (respond_cnt rfl h)

/-- A dispatch step does not move the counter. -/
theorem dispatchStep_cnt {s t : State} (h : dispatchStep s = .next t) : t.cnt = s.cnt := by
  rcases dispatchStep_cases h with rfl | rfl | ⟨_, src, _, htake⟩
  · rfl
  · rfl
  · obtain ⟨-, -, -, hcnt, -⟩ := take_common htake
    exact hcnt

/-- Settles O56: a step that moves the counter runs an operation, and of the operations only two move it. -/
theorem onlyTickAndResetMoveTheCounter : Obligations.OnlyTickAndResetMoveTheCounter := by
  intro s t h hne
  obtain ⟨-, ⟨-, rfl⟩ | ⟨x, rest, hin, hx⟩⟩ := step_cases h
  · exact absurd rfl hne
  refine ⟨rest, ?_⟩
  rcases runStimulus_cases hx with ⟨w, e, rfl, hd, rfl⟩ | ⟨w, i, rfl, hd, he⟩ | ⟨rfl, hd⟩
  · exact absurd rfl hne
  · rcases exec_cnt he with hcnt | ⟨rfl, hcnt⟩ | ⟨rfl, hcnt⟩
    · exact absurd hcnt hne
    · exact .inl ⟨by rw [hin, eq_of_decode_evTick hd], hcnt⟩
    · exact .inr ⟨by rw [hin, eq_of_decode_evReset hd], hcnt⟩
  · exact absurd (dispatchStep_cnt hd) hne

end Sys2Proof.Machine
end

section
/-! PROOFS. What only a reset can undo: OUT and TRACE grow, and REFUSED sticks (R19, R58, R59). -/

namespace Sys2Proof.Machine

/-- OUT and TRACE of `t` continue those of `s`, and REFUSED is not cleared (R58 to R60). -/
structure Continues (s t : State) : Prop where
  out : s.out <+: t.out
  trace : s.trace <+: t.trace
  refused : s.refused = true → t.refused = true

namespace Continues

theorem refl (s : State) : Continues s s := ⟨List.prefix_rfl, List.prefix_rfl, id⟩

theorem trans {s t u : State} (h : Continues s t) (k : Continues t u) : Continues s u :=
  ⟨h.out.trans k.out, h.trace.trans k.trace, k.refused ∘ h.refused⟩

/-- A change that appends to OUT and TRACE and leaves REFUSED alone. -/
theorem of_append {s t : State} {os : List OutEvent} {ts : List TraceEntry} (ho : t.out = s.out ++ os)
    (ht : t.trace = s.trace ++ ts) (hr : t.refused = s.refused) : Continues s t :=
  ⟨ho ▸ List.prefix_append _ _, ht ▸ List.prefix_append _ _, hr ▸ id⟩

/-- A change that leaves OUT, TRACE and REFUSED alone. -/
theorem of_eq {s t : State} (ho : t.out = s.out) (ht : t.trace = s.trace) (hr : t.refused = s.refused) :
    Continues s t :=
  of_append (os := []) (ts := []) (by simpa using ho) (by simpa using ht) hr

/-- What follows a change that leaves OUT, TRACE and REFUSED alone. -/
theorem after_silent {s t u : State} (h : Continues t u) (ho : t.out = s.out) (ht : t.trace = s.trace)
    (hr : t.refused = s.refused) : Continues s u :=
  (of_eq ho ht hr).trans h

end Continues

/-! ## Lines and primitives -/

theorem latchS_continues (e : Polarity) (s : State) : Continues s (latchS e s) := by
  rcases latchS_cases e s with h | ⟨_, _, _, h⟩ | ⟨_, _, _, h⟩ <;> rw [h]
  · exact .refl s
  · exact .of_eq rfl rfl rfl
  · exact .of_append (os := []) (by simp) rfl rfl

theorem latchR_continues (e : Polarity) (s : State) : Continues s (latchR e s) := by
  rcases latchR_cases e s with h | ⟨_, _, _, h⟩ | ⟨_, _, _, h⟩ <;> rw [h]
  · exact .refl s
  · exact .of_eq rfl rfl rfl
  · exact .of_append (os := []) (by simp) rfl rfl

theorem lineUpdateS_continues (s : State) : Continues s (lineUpdateS s) := by
  rcases lineUpdateS_cases s with ⟨_, h⟩ | ⟨_, h⟩ <;> rw [h]
  · exact .refl s
  · exact (latchS_continues _ _).after_silent rfl rfl rfl

theorem driveS_continues (v : Bool) (s : State) : Continues s (driveS v s) :=
  have hemit : Continues s (emit (.sdrive v) { s with pin := { s.pin with drv := v } }) :=
    .of_append (ts := []) rfl (by simp) rfl
  hemit.trans (lineUpdateS_continues _)

theorem presentS_continues (v : Level) (s : State) : Continues s (presentS v s) :=
  (lineUpdateS_continues _).after_silent rfl rfl rfl

theorem presentR_continues (v : Level) (s : State) : Continues s (presentR v s) := by
  unfold presentR
  split
  · exact .refl s
  · exact (latchR_continues _ _).after_silent rfl rfl rfl

theorem arm_continues {ch : Channel} {u : Nat} {s t : State} (h : arm ch u s = .ok t) : Continues s t := by
  rw [arm_eq_ok h]
  cases ch <;> exact .of_eq rfl rfl rfl

theorem clearPending_continues (src : Source) (s : State) : Continues s (clearPending src s) := by
  cases src <;> exact .of_eq rfl rfl rfl

theorem refuse_continues (s : State) : Continues s (refuse s) := ⟨List.prefix_rfl, List.prefix_rfl, fun _ => rfl⟩

/-! ## The sensor's handlers -/

theorem abort_continues (c : Cause) (s : State) : Continues s (abort c s) := by
  rw [abort_eq]
  cases hd : s.pin.drv
  · exact .of_append (os := []) (by simp) rfl rfl
  · exact .of_append rfl rfl rfl

theorem finish_continues (s : State) : Continues s (finish s) := by
  cases h : checksumOk s.sensor.acc
  · rw [finish_of_invalid h]
    exact abort_continues _ s
  · rw [finish_of_valid h]
    exact .of_append (os := []) (by simp) rfl rfl

theorem acceptBit_continues (b : Bool) (s : State) : Continues s (acceptBit b s) := by
  rcases acceptBit_cases b s with ⟨_, h⟩ | ⟨_, h⟩ <;> rw [h]
  · exact (finish_continues _).after_silent rfl rfl rfl
  · exact .of_eq rfl rfl rfl

theorem sensorCapture_continues (s : State) : Continues s (sensorCapture s) := by
  rcases sensorCapture_cases s with ⟨_, h⟩ | ⟨_, _, h⟩ | ⟨_, h⟩ | ⟨_, b, _, h⟩ <;> rw [h]
  · exact .refl s
  · exact .of_eq rfl rfl rfl
  · exact (abort_continues _ _).after_silent rfl rfl rfl
  · exact (acceptBit_continues b _).after_silent rfl rfl rfl

theorem startListening_continues (s : State) : Continues s (startListening s) :=
  .trans (driveS_continues false s) (.of_eq rfl rfl rfl)

theorem sensorTimeout_continues {s t : State} (h : sensorTimeout s = .ok t) : Continues s t := by
  rcases sensorTimeout_cases h with ⟨_, ha⟩ | ⟨_, rfl⟩ | ⟨_, rfl⟩
  · exact .trans (startListening_continues s) (arm_continues ha)
  · exact abort_continues _ s
  · exact .refl _

/-! ## The remote's handlers -/

theorem completionCheck_continues (s : State) : Continues s (completionCheck s) := by
  rcases completionCheck_cases s with ⟨_, h⟩ | ⟨_, h⟩ <;> rw [h]
  · exact .of_append rfl rfl rfl
  · exact .refl s

theorem enterSub_continues (n : RSub) (s : State) : Continues s (enterSub n s) := by
  cases n <;> exact (completionCheck_continues _).after_silent rfl rfl rfl

theorem remoteCapture_continues {s t : State} (h : remoteCapture s = .ok t) : Continues s t := by
  rcases remoteCapture_cases h with ⟨_, rfl⟩ | ⟨_, _, ha⟩ | ⟨_, _, _, he⟩ | ⟨_, _, _, rfl⟩
  · exact .of_eq rfl rfl rfl
  · exact (arm_continues ha).after_silent rfl rfl rfl
  · rw [enterError_eq_ok he]
    exact .of_append (os := []) (by simp) rfl rfl
  · exact (enterSub_continues _ _).after_silent rfl rfl rfl

theorem remoteTimeout_continues {s t : State} (h : remoteTimeout s = .ok t) : Continues s t := by
  rcases remoteTimeout_cases h with ⟨_, rfl⟩ | ⟨_, rfl⟩
  · exact .of_append (os := []) (by simp) rfl rfl
  · exact .refl _

/-! ## Operations and steps -/

theorem take_continues {src : Source} {s t : State} (h : take src s = .ok t) : Continues s t := by
  rcases take_cases h with ⟨rfl, rfl⟩ | ⟨rfl, hh⟩ | ⟨rfl, hh⟩ | ⟨rfl, hh⟩
  · exact .trans (clearPending_continues _ s) (sensorCapture_continues _)
  · exact .trans (clearPending_continues _ s) (remoteCapture_continues hh)
  · exact .trans (clearPending_continues _ s) (sensorTimeout_continues hh)
  · exact .trans (clearPending_continues _ s) (remoteTimeout_continues hh)

theorem beginRequest_continues (s : State) : Continues s (beginRequest s) := by
  rw [beginRequest_eq]
  exact .of_append (ts := []) rfl (by simp) rfl

theorem consume_continues (s : State) : Continues s (consume s) := by
  rw [consume_eq]
  exact .of_eq rfl rfl rfl

theorem body_continues {s b : State} (h : Body s b) : Continues s b := by
  cases h with
  | nothing => exact .refl s
  | start _ harm => exact .trans (beginRequest_continues s) (arm_continues harm)
  | consume => exact consume_continues s
  | initialise | enable | disable | tick => exact .of_eq rfl rfl rfl
  | sline v => exact presentS_continues v s
  | rline v => exact presentR_continues v s

/-- The induction of what every step but a reset keeps: a property that the model's own fields do not matter to, and
that every refusal, every own effect and every handler keeps. -/
theorem step_keeps_unless_reset {P : State → Prop}
    (hfree : ∀ (s : State) i r, P s → P { s with input := i, result := r })
    (hrefuse : ∀ s, P s → P (refuse s))
    (hbody : ∀ s b, s.cfg.wf = true → P s → Body s b → P b)
    (htake : ∀ src s t, P s → s.highestPending = some src → take src s = .ok t → P t)
    {s t : State} (hs : P s) (hn : s.NoResetNext) (h : step s = .next t) : P t := by
  obtain ⟨hwf, ⟨-, rfl⟩ | ⟨x, rest, hin, hx⟩⟩ := step_cases h
  · exact hs
  have hfetched : P { s with input := rest } := hfree s rest s.result hs
  rcases runStimulus_cases hx with ⟨w, e, rfl, hd, rfl⟩ | ⟨w, i, rfl, hd, he⟩ | ⟨rfl, hd⟩
  · exact hrefuse _ hfetched
  · rcases exec_cases he with rfl | ⟨rfl, -⟩ | ⟨b, r, hb, hset⟩
    · exact hrefuse _ hfetched
    · have hreset : (Stimulus.word w).isReset = false := hn _ (by simp [hin])
      simp [eq_of_decode_evReset hd, Stimulus.isReset] at hreset
    · exact settle_keeps htake (hfree b b.input r (hbody { s with input := rest } b hwf hfetched hb)) hset
  · rcases dispatchStep_cases hd with rfl | rfl | ⟨-, src, hp, ht⟩
    · exact hfree s rest none hs
    · exact hrefuse _ hfetched
    · exact htake src _ t (hfree s rest none hs) hp ht

/-- Every step but a reset continues OUT and TRACE and keeps REFUSED. -/
theorem step_continues {s t : State} (h : step s = .next t) (hn : s.NoResetNext) : Continues s t :=
  step_keeps_unless_reset (P := Continues s)
    (hfree := fun _ _ _ hu => hu.trans (.of_eq rfl rfl rfl))
    (hrefuse := fun u hu => hu.trans (refuse_continues u))
    (hbody := fun _ _ _ hu hb => hu.trans (body_continues hb))
    (htake := fun _ _ _ hu _ ht => hu.trans (take_continues ht))
    (.refl s) hn h

/-- Settles O54: the three parts of `Continues`, over the step. -/
theorem outputsGrowAndRefusedSticks : Obligations.OutputsGrowAndRefusedSticks := by
  intro s t h hn
  obtain ⟨hout, htrace, hrefused⟩ := step_continues h hn
  exact ⟨hout, htrace, hrefused⟩

end Sys2Proof.Machine
end

section
/-! PROOFS. What a step can leave, as one inversion and one induction rule; the configuration is kept (R57). -/

namespace Sys2Proof.Machine

/-! ## Lines: all that a new level can do -/

/-- All that a level of the sensor device can do (R141, R142, R144). -/
theorem presentS_cases (v : Level) (s : State) :
    presentS v s = { s with pin := { env := v, drv := s.pin.drv, line := v && !s.pin.drv } } ∨
    ∃ n tr, presentS v s = { s with
      pin := { env := v, drv := s.pin.drv, line := v && !s.pin.drv }
      scap := { s.scap with icr := s.cnt, pf := true }, ovrS := n, trace := tr } := by
  by_cases h : (v && !s.pin.drv) ≠ s.pin.line ∧ s.scap.en = true ∧ edgeTo (v && !s.pin.drv) = s.scap.pol
  · obtain ⟨hline, hen, hedge⟩ := h
    exact .inr ⟨_, _, presentS_of_armed hline hen hedge⟩
  · exact .inl (presentS_of_ignored h)

/-- All that a level of the receiver can do (R143, R144). -/
theorem presentR_cases (v : Level) (s : State) :
    (¬(v ≠ s.rLine ∧ s.rcap.en = true ∧ edgeTo v = s.rcap.pol) ∧ presentR v s = { s with rLine := v }) ∨
    (s.rcap.en = true ∧ edgeTo v = s.rcap.pol ∧ ∃ n tr, presentR v s = { s with
      rLine := v, rcap := { s.rcap with icr := s.cnt, pf := true }, ovrR := n, trace := tr }) := by
  by_cases h : v ≠ s.rLine ∧ s.rcap.en = true ∧ edgeTo v = s.rcap.pol
  · obtain ⟨hline, hen, hedge⟩ := h
    exact .inr ⟨hen, hedge, _, _, presentR_of_armed hline hen hedge⟩
  · exact .inl ⟨h, presentR_of_ignored h⟩

theorem presentS_side (v : Level) (s : State) : SensorSide s (presentS v s) :=
  SensorSide.trans (by constructor <;> rfl) (lineUpdateS_side _)

theorem beginRequest_side (s : State) : SensorSide s (beginRequest s) := by
  rw [beginRequest_eq]
  constructor <;> rfl

/-! ## Steps -/

/-- All that a step from `s` can leave: `s` with other bookkeeping, the reset state, what an operation's own effect
leaves when it has settled, or what the source taken by a dispatch step leaves (R17, R260, R266). -/
inductive StepResult (s : State) : State → Prop where
  | kept (i : List Stimulus) (r : Option ResultWord) (f : Bool) :
      StepResult s { s with input := i, result := r, refused := f }
  | reset {i : List Stimulus} (hin : s.input = .word 0x8F00000000#40 :: i) : StepResult s (State.resetWith s.cfg i)
  | operation {i : List Stimulus} {r : Option ResultWord} {b t : State} (hb : Body { s with input := i } b)
      (hset : settle { b with result := r } = .ok t) : StepResult s t
  | dispatched {i : List Stimulus} {src : Source} {t : State} (hfree : s.cfg.irqLatencyFree = true)
      (hp : s.highestPending = some src) (ht : take src { s with input := i, result := none } = .ok t) :
      StepResult s t

theorem stepResult_of_step {s t : State} (h : step s = .next t) : StepResult s t := by
  obtain ⟨-, ⟨-, rfl⟩ | ⟨x, i, hin, hx⟩⟩ := step_cases h
  · exact .kept t.input t.result t.refused
  rcases runStimulus_cases hx with ⟨w, e, rfl, -, rfl⟩ | ⟨w, op, rfl, hd, he⟩ | ⟨rfl, hd⟩
  · exact .kept i none true
  · rcases exec_cases he with rfl | ⟨rfl, rfl⟩ | ⟨b, r, hb, hset⟩
    · exact .kept i none true
    · exact .reset (by rw [hin, eq_of_decode_evReset hd])
    · exact .operation hb hset
  · rcases dispatchStep_cases hd with rfl | rfl | ⟨hfree, src, hp, ht⟩
    · exact .kept i none s.refused
    · exact .kept i none true
    · exact .dispatched hfree hp ht

/-- A property of the step's end, possibly about its beginning `s` too: it is enough that bookkeeping and reset reach
it, that every own effect of an operation on `s` reaches it, and that every handler then keeps it. -/
theorem step_reaches {s t : State} {Q : State → Prop} (h : step s = .next t)
    (hkept : ∀ i r f, Q { s with input := i, result := r, refused := f })
    (hreset : ∀ i, s.input = .word 0x8F00000000#40 :: i → Q (State.resetWith s.cfg i))
    (hbody : ∀ i r b, Body { s with input := i } b → Q { b with result := r })
    (htake : ∀ src u v, Q u → u.highestPending = some src → take src u = .ok v → Q v) : Q t := by
  cases stepResult_of_step h with
  | kept i r f => exact hkept i r f
  | reset hin => exact hreset _ hin
  | operation hb hset => exact settle_keeps htake (hbody _ _ _ hb) hset
  | dispatched _ hp ht => exact htake _ _ _ (hkept _ none s.refused) hp ht

/-- A step from a settled state ends settled (R261). -/
theorem step_settled {s t : State} (h : step s = .next t) (hs : s.Settled) : t.Settled := by
  cases stepResult_of_step h with
  | kept => exact hs
  | reset => exact .inr rfl
  | operation _ hset => exact settled_of_settle hset
  | dispatched hfree _ ht =>
    obtain ⟨hcfg, -⟩ := take_common ht
    exact .inl (hcfg ▸ hfree)

/-! ## The configuration -/

theorem body_cfg {s b : State} (h : Body s b) : b.cfg = s.cfg := by
  cases h with
  | nothing | initialise | enable | disable | tick => rfl
  | start _ harm => exact ((beginRequest_side s).trans (arm_S_side harm)).cfg
  | consume => rw [consume_eq]
  | sline v => exact (presentS_side v s).cfg
  | rline v => rcases presentR_cases v s with ⟨_, e⟩ | ⟨_, _, _, _, e⟩ <;> rw [e]

/-- Settles O53: neither an own effect nor a handler writes the configuration, and a reset keeps it. -/
theorem noStepChangesTheConfiguration : Obligations.NoStepChangesTheConfiguration := by
  intro s t h
  refine step_reaches (Q := fun u => u.cfg = s.cfg) h (fun _ _ _ => rfl) (fun _ _ => rfl) ?_ ?_
  · intro _ _ _ hb
    have hcfg := body_cfg hb
    exact hcfg
  · intro _ u v hu _ ht
    obtain ⟨hcfg, -⟩ := take_common ht
    exact hcfg.trans hu

end Sys2Proof.Machine
end

section
/-! PROOFS. When the published reading changes (R46, R178). -/

namespace Sys2Proof.Machine

/-! ## Handlers and the sensor decoder -/

theorem busy_of_capturing {x : SState} : x.capturing = true → x.busy = true := by cases x <;> decide

/-- Outside its six Busy states no handler touches the sensor decoder (R164, R166, R179). -/
theorem take_sensor_of_not_busy {src : Source} {s t : State} (hbusy : s.sensor.state.busy = false)
    (h : take src s = .ok t) : t.sensor = s.sensor := by
  have hcap : s.sensor.state.capturing ≠ true := fun hcap => by simp [busy_of_capturing hcap] at hbusy
  rcases take_cases h with ⟨rfl, rfl⟩ | ⟨rfl, _⟩ | ⟨rfl, hh⟩ | ⟨rfl, _⟩
  · rw [sensorCapture, if_neg (by exact hcap)]
    rfl
  · exact (take_remoteSide h (.inl rfl)).sensor
  · rcases sensorTimeout_cases hh with ⟨hreq, -⟩ | ⟨hc, -⟩ | ⟨-, rfl⟩
    · rw [show s.sensor.state = .requesting from hreq] at hbusy
      cases hbusy
    · exact absurd hc hcap
    · rfl
  · exact (take_remoteSide h (.inr rfl)).sensor

/-- With another source taken first, the sensor's capture is not pending (R264). -/
theorem sCap_not_pending_of_other {s : State} {src : Source} (h : s.highestPending = some src) (hsrc : src ≠ .sCap) :
    s.pending .sCap = false := by
  by_contra hp
  have hfirst : s.highestPending = some .sCap := by rw [State.highestPending, if_pos (Bool.eq_true_of_not_eq_false hp)]
  exact hsrc (Option.some.inj (h.symm.trans hfirst))

/-- A source that is taken, or was not pending, is not pending after a handler (R263, R265). -/
theorem not_pending_after_take {src x : Source} {s t : State} (h : take src s = .ok t)
    (hx : s.pending x = false ∨ x = src) : t.pending x = false := by
  by_contra hpend
  obtain ⟨hbefore, hne⟩ := pending_after_take h (Bool.eq_true_of_not_eq_false hpend)
  exact hx.elim (fun hquiet => absurd (hquiet.symm.trans hbefore) Bool.false_ne_true) hne

/-- After one pass of the dispatch loop the sensor's capture is not pending: it goes first (R264). -/
theorem sCap_not_pending_after_take {src : Source} {s t : State} (hp : s.highestPending = some src)
    (h : take src s = .ok t) : t.pending .sCap = false := by
  by_cases hsrc : src = .sCap
  · exact not_pending_after_take h (.inr hsrc.symm)
  · exact not_pending_after_take h (.inl (sCap_not_pending_of_other hp hsrc))

/-! ## The reading -/

/-- `t` publishes the reading that `s` publishes (R46). -/
def SameReading (s t : State) : Prop := t.sensor.hum = s.sensor.hum ∧ t.sensor.temp = s.sensor.temp

/-- `t` has just published the frame that one more bit completes in `s` (R178). -/
def PublishesFrame (s t : State) : Prop :=
  s.sensor.state = .bitPhase ∧ s.sensor.cnt.toNat = 39 ∧ t.sensor.state = .ready ∧
  ∃ frame : BitVec 40, checksumOk frame = true ∧ t.sensor.hum = humField frame ∧
    t.sensor.temp = decodeTemp (tempField frame) ∧ ∃ b : Bool, frame = shiftIn40 s.sensor.acc b

theorem SameReading.of_sensor {s t : State} (h : t.sensor = s.sensor) : SameReading s t := by
  rw [SameReading, h]
  exact ⟨rfl, rfl⟩

theorem SameReading.trans {s t u : State} (h : SameReading s t) (k : SameReading t u) : SameReading s u :=
  ⟨k.1.trans h.1, k.2.trans h.2⟩

theorem PublishesFrame.congr {s s' t t' : State} (h : PublishesFrame s t) (hs : s'.sensor = s.sensor)
    (ht : t'.sensor = t.sensor) : PublishesFrame s' t' := by
  rw [PublishesFrame, hs, ht]
  exact h

theorem abort_sameReading (c : Cause) (s : State) : SameReading s (abort c s) := by
  rw [abort_eq]
  exact ⟨rfl, rfl⟩

/-- The one place that publishes: the 40th bit of a frame with a right checksum (R172, R178). -/
theorem acceptBit_reading (b : Bool) {s : State} (hst : s.sensor.state = .bitPhase) :
    SameReading s (acceptBit b s) ∨ PublishesFrame s (acceptBit b s) := by
  rcases acceptBit_cases b s with ⟨hcnt, e⟩ | ⟨_, e⟩ <;> rw [e]
  · cases hok : checksumOk (shiftIn40 s.sensor.acc b) with
    | true =>
      have h39 : s.sensor.cnt.toNat = 39 := by bv_omega
      rw [finish_of_valid (by exact hok)]
      exact .inr ⟨hst, h39, rfl, _, hok, rfl, rfl, b, rfl⟩
    | false =>
      rw [finish_of_invalid (by exact hok)]
      exact .inl (abort_sameReading _ (toggleS (appendS b s)))
  · exact .inl ⟨rfl, rfl⟩

theorem sensorCapture_reading (s : State) : SameReading s (sensorCapture s) ∨ PublishesFrame s (sensorCapture s) := by
  rcases sensorCapture_cases s with ⟨_, e⟩ | ⟨_, _, e⟩ | ⟨_, e⟩ | ⟨hst, b, _, e⟩ <;> rw [e]
  · exact .inl ⟨rfl, rfl⟩
  · exact .inl ⟨rfl, rfl⟩
  · exact .inl (abort_sameReading _ { s with sensor := { s.sensor with phase := s.scap.icr } })
  · exact acceptBit_reading b (s := { s with sensor := { s.sensor with phase := s.scap.icr } }) hst

theorem lineUpdateS_sensor (s : State) : (lineUpdateS s).sensor = s.sensor := by
  unfold lineUpdateS latchS
  split
  · rfl
  · split <;> rfl

theorem startListening_sameReading (s : State) : SameReading s (startListening s) := by
  have hdrive : (driveS false s).sensor = s.sensor := lineUpdateS_sensor _
  exact .trans (.of_sensor hdrive) ⟨rfl, rfl⟩

theorem sensorTimeout_sameReading {s t : State} (h : sensorTimeout s = .ok t) : SameReading s t := by
  rcases sensorTimeout_cases h with ⟨_, harm⟩ | ⟨_, rfl⟩ | ⟨_, rfl⟩
  · rw [arm_eq_ok harm]
    exact .trans (startListening_sameReading s) ⟨rfl, rfl⟩
  · exact abort_sameReading _ s
  · exact ⟨rfl, rfl⟩

/-- What each handler does to the reading: only the sensor's capture handler publishes. -/
theorem take_reading {src : Source} {s t : State} (h : take src s = .ok t) :
    SameReading s t ∨ (src = .sCap ∧ PublishesFrame s t) := by
  rcases take_cases h with ⟨rfl, rfl⟩ | ⟨rfl, _⟩ | ⟨rfl, hh⟩ | ⟨rfl, _⟩
  · exact (sensorCapture_reading (clearPending .sCap s)).imp_right fun hpub => ⟨rfl, hpub⟩
  · exact .inl (.of_sensor (take_remoteSide h (.inl rfl)).sensor)
  · exact .inl (.trans (s := s) (t := clearPending .sOc s) ⟨rfl, rfl⟩ (sensorTimeout_sameReading hh))
  · exact .inl (.of_sensor (take_remoteSide h (.inr rfl)).sensor)

/-! ## Steps -/

/-- What an operation's own effect leaves of the sensor decoder: all of it, or a state in which no bit can arrive. -/
theorem body_sensor {s b : State} (h : Body s b) :
    b.sensor = s.sensor ∨ (SameReading s b ∧ (b.pending .sCap = false ∨ b.sensor.state.busy = false)) := by
  cases h with
  | nothing | initialise | enable | disable | tick => exact .inl rfl
  | start _ harm =>
    rw [arm_eq_ok harm, beginRequest_eq]
    exact .inr ⟨⟨rfl, rfl⟩, .inl rfl⟩
  | consume =>
    unfold consume
    split
    · exact .inl rfl
    · exact .inr ⟨⟨rfl, rfl⟩, .inr rfl⟩
  | sline v => exact .inl (lineUpdateS_sensor _)
  | rline v => rcases presentR_cases v s with ⟨_, e⟩ | ⟨_, _, _, _, e⟩ <;> rw [e] <;> exact .inl rfl

/-- Within a step from `s`: the reading is the old one, and either the sensor decoder is still as in `s` or no capture
can complete a frame any more; or the frame of `s` has been published. -/
def ReadingWithin (s u : State) : Prop :=
  (SameReading s u ∧ (u.sensor = s.sensor ∨ u.pending .sCap = false ∨ u.sensor.state.busy = false)) ∨
    PublishesFrame s u

/-- Every handler keeps `ReadingWithin`: the sensor's capture is taken at most once, and no handler touches a published
reading. -/
theorem take_readingWithin {s : State} (src : Source) (u v : State) (hu : ReadingWithin s u)
    (hp : u.highestPending = some src) (ht : take src u = .ok v) : ReadingWithin s v := by
  rcases hu with ⟨hread, hrest⟩ | hpub
  · have hserved := sCap_not_pending_after_take hp ht
    suffices h : SameReading u v ∨ PublishesFrame s v from
      h.imp_left fun hr => ⟨hread.trans hr, .inr (.inl hserved)⟩
    rcases hrest with hsame | hquiet | hidle
    · exact (take_reading ht).imp_right fun ⟨_, hpub⟩ => hpub.congr hsame.symm rfl
    · refine .inl ((take_reading ht).resolve_right ?_)
      rintro ⟨rfl, -⟩
      rw [pending_of_highestPending hp] at hquiet
      cases hquiet
    · exact .inl (.of_sensor (take_sensor_of_not_busy hidle ht))
  · have hidle : u.sensor.state.busy = false := by
      obtain ⟨-, -, hready, -⟩ := hpub
      rw [hready]
      rfl
    exact .inr (hpub.congr rfl (take_sensor_of_not_busy hidle ht))

/-- Within every step but a reset the reading is the old one or that of the frame just completed. -/
theorem step_readingWithin {s t : State} (h : step s = .next t) (hn : s.NoResetNext) : ReadingWithin s t := by
  refine step_reaches h (fun _ _ _ => .inl ⟨⟨rfl, rfl⟩, .inl rfl⟩) ?_ ?_ take_readingWithin
  · intro i hin
    have hreset : (Stimulus.word 0x8F00000000#40).isReset = false := hn _ (by simp [hin])
    simp [Stimulus.isReset] at hreset
  · intro i r b hb
    rcases body_sensor hb with hsame | ⟨hread, hrest⟩
    · exact .inl ⟨.of_sensor hsame, .inl hsame⟩
    · exact .inl ⟨hread, .inr hrest⟩

/-- Settles O58: a step that is no reset and does not keep the reading has published the frame it completed. -/
theorem readingChangesOnlyOnACompleteFrame : Obligations.ReadingChangesOnlyOnACompleteFrame := by
  intro s t h hn hchanged
  rcases step_readingWithin h hn with ⟨⟨hhum, htemp⟩, -⟩ | hpub
  · exact absurd hchanged (by simp [hhum, htemp])
  · exact hpub

end Sys2Proof.Machine
end

section
/-! PROOFS. The sensor decoder's invariants (R38, R45, R47) are kept. -/

namespace Sys2Proof.Machine

/-- The part of the sensor's invariants that no state of the decoder matters to: its Ticks, its line and S_TEMP. -/
structure SensorFrame (s : State) : Prop where
  cntTick : s.cnt < s.cfg.modulus
  icrTick : s.scap.icr < s.cfg.modulus
  ocrTick : s.ocS.ocr < s.cfg.modulus
  phaseTick : s.sensor.phase < s.cfg.modulus
  wired : s.SensorLineWired
  temp : -32767 ≤ s.sensor.temp ∧ s.sensor.temp ≤ 32767

/-- The sensor's Ticks, its line and R47, by name. -/
structure SensorOk (s : State) : Prop extends SensorFrame s where
  count : s.sensor.cnt.toNat ≤ 39
  bits : s.sensor.acc.toNat < 2 ^ s.sensor.cnt.toNat
  cleared : s.sensor.state.collecting = false → s.sensor.acc = 0 ∧ s.sensor.cnt = 0
  enabled : s.scap.en = s.sensor.state.capturing
  driven : s.pin.drv = decide (s.sensor.state = .requesting)
  armed : s.ocS.oca = true ∨ s.ocS.ocf = true → s.sensor.state.busy = true

theorem SensorOk.congr {s t : State} (h : SensorOk s) (hcfg : t.cfg = s.cfg) (hcnt : t.cnt = s.cnt)
    (hscap : t.scap = s.scap) (hocS : t.ocS = s.ocS) (hpin : t.pin = s.pin) (hsensor : t.sensor = s.sensor) :
    SensorOk t := by
  obtain ⟨⟨h1, h2, h3, h4, h5, h6⟩, h7, h8, h9, h10, h11, h12⟩ := h
  constructor
  constructor
  all_goals simpa only [State.SensorLineWired, hcfg, hcnt, hscap, hocS, hpin, hsensor]

theorem SensorOk.of_remoteSide {s t : State} (h : SensorOk s) (k : RemoteSide s t) : SensorOk t :=
  h.congr k.cfg k.cnt k.scap k.ocS k.pin k.sensor

/-- With the decoder, its units and the request drive off and no bits held, a state outside Busy meets the invariants
(R47). -/
theorem sensorOk_of_resting {s : State} (h : SensorFrame s) (hst : s.sensor.state = .idle ∨ s.sensor.state = .ready)
    (hacc : s.sensor.acc = 0) (hcnt : s.sensor.cnt = 0) (hen : s.scap.en = false) (hdrv : s.pin.drv = false)
    (hoca : s.ocS.oca = false) (hocf : s.ocS.ocf = false) : SensorOk s :=
  { h with
    count := by simp [hcnt]
    bits := by simp [hacc, hcnt]
    cleared := fun _ => ⟨hacc, hcnt⟩
    enabled := by rcases hst with hst | hst <;> rw [hen, hst] <;> rfl
    driven := by rcases hst with hst | hst <;> rw [hdrv, hst] <;> rfl
    armed := by simp [hoca, hocf] }

theorem sensorOk_resetWith (c : Config) (i : List Stimulus) : SensorOk (State.resetWith c i) :=
  have htemp : -32767 ≤ SensorDecoder.reset.temp ∧ SensorDecoder.reset.temp ≤ 32767 := by decide
  sensorOk_of_resting ⟨modulus_pos c, modulus_pos c, modulus_pos c, modulus_pos c, rfl, htemp⟩
    (.inl rfl) rfl rfl rfl rfl rfl rfl

/-! ## The handlers -/

/-- An abort ends in Idle with every unit off, from whatever state (R168). -/
theorem abort_sensorOk {s : State} (c : Cause) (h : SensorFrame s) : SensorOk (abort c s) := by
  rw [abort_eq]
  cases hd : s.pin.drv
  · exact sensorOk_of_resting { h with } (.inl rfl) rfl rfl rfl hd rfl rfl
  · exact sensorOk_of_resting { h with wired := (Bool.and_true _).symm } (.inl rfl) rfl rfl rfl rfl rfl rfl

/-- The end of a frame, either way, ends with every unit off (R178). -/
theorem finish_sensorOk {s : State} (h : SensorFrame s) (hdrv : s.pin.drv = false) : SensorOk (finish s) := by
  cases hok : checksumOk s.sensor.acc with
  | false =>
    rw [finish_of_invalid hok]
    exact abort_sensorOk _ h
  | true =>
    rw [finish_of_valid hok]
    exact sensorOk_of_resting { h with temp := decodeTemp_range _ } (.inr rfl) rfl rfl rfl hdrv rfl rfl

/-- One more bit doubles the bound of the accumulator (R172). -/
theorem shiftIn40_lt {acc : BitVec 40} {n : Nat} (b : Bool) (h : acc.toNat < 2 ^ n) :
    (shiftIn40 acc b).toNat < 2 ^ (n + 1) := by
  have hb := Bool.toNat_le b
  rw [toNat_shiftIn40, pow_succ]
  exact lt_of_le_of_lt (Nat.mod_le _ _) (by omega)

/-- A bit accepted in BitPhase: below 40 bits the counter does not wrap and the accumulator fits it (R47, R172). -/
theorem acceptBit_sensorOk {s : State} (b : Bool) (h : SensorOk s) (hst : s.sensor.state = .bitPhase) :
    SensorOk (acceptBit b s) := by
  have hcount := h.count
  have hdrv : s.pin.drv = false := by rw [h.driven, hst]; rfl
  have hnext : (s.sensor.cnt + 1).toNat = s.sensor.cnt.toNat + 1 := by bv_omega
  rcases acceptBit_cases b s with ⟨-, e⟩ | ⟨hne, e⟩ <;> rw [e]
  · exact finish_sensorOk { h with } hdrv
  · exact { h with
      count := show (s.sensor.cnt + 1).toNat ≤ 39 by omega
      bits := show _ < 2 ^ (s.sensor.cnt + 1).toNat by rw [hnext]; exact shiftIn40_lt b h.bits
      cleared := fun hcollecting => by cases hcollecting
      enabled := h.enabled.trans (by rw [hst]; rfl)
      driven := hdrv
      armed := fun _ => rfl }

/-- A capturing state but BitPhase is followed by a capturing state, and by a collecting one if it is collecting
itself (R160). -/
theorem following_spec {x : SState} : x.capturing = true → x ≠ .bitPhase →
    x.following.capturing = true ∧ x.following ≠ .requesting ∧
      (x.following.collecting = false → x.collecting = false) := by
  cases x <;> decide

theorem advance_sensorOk {s : State} (h : SensorOk s) (hcap : s.sensor.state.capturing = true)
    (hst : s.sensor.state ≠ .bitPhase) : SensorOk (advance s.sensor.state.following s) := by
  obtain ⟨hnext, hreq, hcollecting⟩ := following_spec hcap hst
  have hnot : s.sensor.state ≠ .requesting := by rintro e; rw [e] at hcap; cases hcap
  exact { h with
    cleared := fun hc => h.cleared (hcollecting hc)
    enabled := (h.enabled.trans hcap).trans hnext.symm
    driven := h.driven.trans (by rw [decide_eq_false hnot]; exact (decide_eq_false hreq).symm)
    armed := fun _ => busy_of_capturing hnext }

theorem sensorCapture_sensorOk {s : State} (h : SensorOk s) : SensorOk (sensorCapture s) := by
  have hphase : SensorOk { s with sensor := { s.sensor with phase := s.scap.icr } } :=
    { h with phaseTick := h.icrTick }
  rcases sensorCapture_cases s with ⟨_, e⟩ | ⟨hcap, hst, e⟩ | ⟨_, e⟩ | ⟨hst, b, _, e⟩ <;> rw [e]
  · exact h
  · exact advance_sensorOk hphase hcap hst
  · exact abort_sensorOk _ hphase.toSensorFrame
  · exact acceptBit_sensorOk b hphase hst

/-- The end of the request pulse, with the watchdog armed (R164). -/
theorem startListening_arm_sensorOk {s t : State} {u : Nat} (h : SensorOk s) (hst : s.sensor.state = .requesting)
    (harm : arm .S u (startListening s) = .ok t) : SensorOk t := by
  have hoff : s.scap.en = false := by rw [h.enabled, hst]; rfl
  have hclear := h.cleared (by rw [hst]; rfl)
  rw [arm_eq_ok harm, startListening_of_off hoff]
  exact { h with
    ocrTick := addTicks_lt_modulus _ _ _
    phaseTick := h.cntTick
    wired := (Bool.and_true _).symm
    cleared := fun _ => hclear
    enabled := rfl
    driven := rfl
    armed := fun _ => rfl }

theorem sensorTimeout_sensorOk {s t : State} (h : SensorOk s) (ht : sensorTimeout s = .ok t) : SensorOk t := by
  rcases sensorTimeout_cases ht with ⟨hst, harm⟩ | ⟨_, rfl⟩ | ⟨_, rfl⟩
  · exact startListening_arm_sensorOk h hst harm
  · exact abort_sensorOk _ h.toSensorFrame
  · exact h

theorem take_sensorOk {src : Source} {s t : State} (h : SensorOk s) (ht : take src s = .ok t) : SensorOk t := by
  rcases take_cases ht with ⟨rfl, rfl⟩ | ⟨rfl, _⟩ | ⟨rfl, hh⟩ | ⟨rfl, _⟩
  · exact sensorCapture_sensorOk { h with }
  · exact h.of_remoteSide (take_remoteSide ht (.inl rfl))
  · have hcleared : SensorOk (clearPending .sOc s) :=
      { h with armed := fun ha => h.armed (ha.imp_right (absurd · Bool.false_ne_true)) }
    exact sensorTimeout_sensorOk hcleared hh
  · exact h.of_remoteSide (take_remoteSide ht (.inr rfl))

/-! ## The operations -/

/-- An accepted `S.START`, with its request armed (R163). -/
theorem beginRequest_arm_sensorOk {s t : State} {u : Nat} (h : SensorOk s) (harm : arm .S u (beginRequest s) = .ok t) :
    SensorOk t := by
  rw [arm_eq_ok harm, beginRequest_eq]
  exact { h with
    ocrTick := addTicks_lt_modulus _ _ _
    wired := (Bool.and_false _).symm
    count := Nat.zero_le _
    bits := Nat.one_pos
    cleared := fun _ => ⟨rfl, rfl⟩
    enabled := rfl
    driven := rfl
    armed := fun _ => rfl }

/-- What the two states outside Busy have in common (R47, R55). -/
theorem not_busy_spec {x : SState} :
    x.busy = false → x.capturing = false ∧ x.collecting = false ∧ x ≠ .requesting := by
  cases x <;> decide

/-- A consuming read moves to Idle from a state whose invariants are those of Idle (R174, R175). -/
theorem consume_sensorOk {s : State} (h : SensorOk s) : SensorOk (consume s) := by
  unfold consume
  split
  · exact h
  · rename_i hbusy
    obtain ⟨hcap, hcollecting, hreq⟩ := not_busy_spec (Bool.eq_false_of_not_eq_true hbusy)
    exact { h with
      cleared := fun _ => h.cleared hcollecting
      enabled := h.enabled.trans hcap
      driven := h.driven.trans (decide_eq_false hreq)
      armed := fun ha => absurd (h.armed ha) hbusy }

theorem presentS_sensorOk {s : State} (v : Level) (h : SensorOk s) : SensorOk (presentS v s) := by
  rcases presentS_cases v s with e | ⟨_, _, e⟩ <;> rw [e]
  · exact { h with wired := rfl }
  · exact { h with wired := rfl, icrTick := h.cntTick }

theorem countTick_sensorOk {s : State} (h : SensorOk s) : SensorOk (countTick s) :=
  { h with
    cntTick := addTicks_lt_modulus _ _ _
    ocrTick := (compareAt_ocr _ _).symm ▸ h.ocrTick
    armed := fun ha => h.armed (compareAt_active ha) }

theorem body_sensorOk {s b : State} (h : SensorOk s) (hb : Body s b) : SensorOk b := by
  cases hb with
  | nothing => exact h
  | start _ harm => exact beginRequest_arm_sensorOk h harm
  | consume => exact consume_sensorOk h
  | initialise | enable | disable => exact { h with }
  | tick => exact countTick_sensorOk h
  | sline v => exact presentS_sensorOk v h
  | rline v => rcases presentR_cases v s with ⟨_, e⟩ | ⟨_, _, _, _, e⟩ <;> rw [e] <;> exact { h with }

theorem step_sensorOk {s t : State} (h : SensorOk s) (hstep : step s = .next t) : SensorOk t :=
  step_keeps
    (hfree := fun _ _ _ _ hu => { hu with })
    (hreset := fun c i _ => sensorOk_resetWith c i)
    (hbody := fun _ _ _ hu hb => body_sensorOk hu hb)
    (htake := fun _ _ _ hu _ ht => take_sensorOk hu ht) h hstep

end Sys2Proof.Machine
end

section
/-! PROOFS. The remote decoder's invariants (R53, R54, R214) are kept. -/

namespace Sys2Proof.Machine

/-- The part of the remote's invariants that no frame matters to: its Ticks, and its capture enable. -/
structure RemoteFrame (s : State) : Prop where
  cntTick : s.cnt < s.cfg.modulus
  icrTick : s.rcap.icr < s.cfg.modulus
  ocrTick : s.ocR.ocr < s.cfg.modulus
  phaseTick : s.remote.phase < s.cfg.modulus
  enabled : s.rcap.en = s.remote.en

/-- The remote's Ticks and `State.RemoteInv`, by name. -/
structure RemoteOk (s : State) : Prop extends RemoteFrame s where
  count : s.remote.cnt.toNat ≤ 13
  bits : s.remote.acc.toNat < 2 ^ s.remote.cnt.toNat
  leading : s.remote.cnt ≠ 0 → 2 ^ (s.remote.cnt.toNat - 1) ≤ s.remote.acc.toNat
  empty : s.remote.cnt = 0 →
    s.remote.acc = 0 ∧ s.rcap.pol = frameStartPolarity s.remote.inv ∧ s.remote.sub = .midOne
  guarded : s.ocR.oca = true ∨ s.ocR.ocf = true → s.remote.sub = .error
  inFrame : s.remote.cnt ≠ 0 → s.remote.en = true
  expected : s.remote.cnt ≠ 0 → s.remote.sub ≠ .error → s.rcap.pol = expectedEdge s.remote.inv s.remote.sub

theorem RemoteOk.congr {s t : State} (h : RemoteOk s) (hcfg : t.cfg = s.cfg) (hcnt : t.cnt = s.cnt)
    (hrcap : t.rcap = s.rcap) (hocR : t.ocR = s.ocR) (hremote : t.remote = s.remote) : RemoteOk t := by
  obtain ⟨⟨h1, h2, h3, h4, h5⟩, h6, h7, h8, h9, h10, h11, h12⟩ := h
  constructor
  constructor
  all_goals simpa only [hcfg, hcnt, hrcap, hocR, hremote]

theorem RemoteOk.of_sensorSide {s t : State} (h : RemoteOk s) (k : SensorSide s t) : RemoteOk t :=
  h.congr k.cfg k.cnt k.rcap k.ocR k.remote

/-- An empty frame, armed for its first edge and with no guard, meets the invariants (R205). -/
theorem remoteOk_of_empty {s : State} (h : RemoteFrame s) (hcnt : s.remote.cnt = 0) (hacc : s.remote.acc = 0)
    (hsub : s.remote.sub = .midOne) (hpol : s.rcap.pol = frameStartPolarity s.remote.inv) (hoca : s.ocR.oca = false)
    (hocf : s.ocR.ocf = false) : RemoteOk s :=
  { h with
    count := by simp [hcnt]
    bits := by simp [hcnt, hacc]
    leading := fun hne => absurd hcnt hne
    empty := fun _ => ⟨hacc, hpol, hsub⟩
    guarded := by simp [hoca, hocf]
    inFrame := fun hne => absurd hcnt hne
    expected := fun hne => absurd hcnt hne }

theorem frameReset_remoteOk {s : State} (h : RemoteFrame s) : RemoteOk (frameReset s) :=
  remoteOk_of_empty { h with } rfl rfl rfl rfl rfl rfl

theorem remoteOk_resetWith (c : Config) (i : List Stimulus) : RemoteOk (State.resetWith c i) :=
  remoteOk_of_empty ⟨modulus_pos c, modulus_pos c, modulus_pos c, modulus_pos c, rfl⟩ rfl rfl rfl rfl rfl rfl

/-! ## The handlers -/

/-- The first edge of a frame seeds its leading 1 (R214). -/
theorem firstEdge_remoteOk {s : State} (h : RemoteOk s) (hcnt : s.remote.cnt = 0) (hen : s.rcap.en = true) :
    RemoteOk (firstEdge s) := by
  obtain ⟨-, hpol, hsub⟩ := h.empty hcnt
  exact { h with
    phaseTick := h.icrTick
    count := show (1 : Nat) ≤ 13 by omega
    bits := show (1 : Nat) < 2 by omega
    leading := fun _ => show (1 : Nat) ≤ 1 from le_rfl
    empty := fun h0 => absurd h0 (by decide : (1 : BitVec 4) ≠ 0)
    guarded := fun ha => absurd (h.guarded ha) (by rw [hsub]; decide)
    inFrame := fun _ => h.enabled.symm.trans hen
    expected := fun _ _ => congrArg Polarity.flip hpol }

/-- An edge inside a frame that ends in Error, with the guard armed (R204, R215, R217). -/
theorem guardedError_remoteOk {s : State} (n : Nat) (h : RemoteOk s) (hcnt : s.remote.cnt ≠ 0) :
    RemoteOk { measureR s with
      remote := { (measureR s).remote with sub := .error }, ocR := .armedAt s.cfg s.cnt n } :=
  { h with
    ocrTick := addTicks_lt_modulus _ _ _
    phaseTick := h.icrTick
    empty := fun h0 => absurd h0 hcnt
    guarded := fun _ => rfl
    expected := fun _ hne => absurd rfl hne }

/-- Every entry of the transition table but Error moves to a sub-state of the other line level (R202, R216). -/
theorem lineActive_nextSub {x : RSub} {p : PulseClass} :
    nextSub x p ≠ .error → (nextSub x p).lineActive = !x.lineActive := by
  cases x <;> cases p <;> decide

/-- The armed edge toggles with the level that the sub-state implies (R216). -/
theorem expectedEdge_flip {inv : Bool} {x y : RSub} (h : y.lineActive = !x.lineActive) :
    expectedEdge inv y = (expectedEdge inv x).flip := by
  unfold expectedEdge
  rw [h]
  cases x.lineActive <;> simp

/-- One more bit doubles the bounds of the bit buffer (R203). -/
theorem shiftIn14_bounds {acc : BitVec 14} {n : Nat} (b : Bool) (hn : 1 ≤ n) (hn' : n ≤ 13)
    (hlow : 2 ^ (n - 1) ≤ acc.toNat) (hhigh : acc.toNat < 2 ^ n) :
    2 ^ n ≤ (shiftIn14 acc b).toNat ∧ (shiftIn14 acc b).toNat < 2 ^ (n + 1) := by
  have hb := Bool.toNat_le b
  have hhalf : 2 ^ n = 2 * 2 ^ (n - 1) := by rw [← pow_succ', Nat.sub_add_cancel hn]
  have hmax : 2 ^ n ≤ 2 ^ 13 := Nat.pow_le_pow_right (by omega) hn'
  rw [toNat_shiftIn14, Nat.mod_eq_of_lt (by omega), pow_succ]
  omega

/-- A sub-state of the other line level is entered and the edge toggled, with no bit appended. -/
theorem measured_remoteOk {s : State} {n : RSub} (h : RemoteOk s) (hcnt : s.remote.cnt ≠ 0)
    (hsub : s.remote.sub ≠ .error) (hline : n.lineActive = !s.remote.sub.lineActive) :
    RemoteOk { measureR s with remote := { (measureR s).remote with sub := n } } :=
  { h with
    phaseTick := h.icrTick
    empty := fun h0 => absurd h0 hcnt
    guarded := fun ha => absurd (h.guarded ha) hsub
    expected := fun _ _ => (congrArg Polarity.flip (h.expected hcnt hsub)).trans (expectedEdge_flip hline).symm }

/-- A bit appended inside a frame leaves a frame that is complete, and cleared, or one bit longer (R203, R218, R219). -/
theorem completionCheck_appendR_remoteOk {s : State} (b : Bool) (h : RemoteOk s) (hcnt : s.remote.cnt ≠ 0) :
    RemoteOk (completionCheck (appendR b s)) := by
  have hcount := h.count
  have hpos : 1 ≤ s.remote.cnt.toNat := by bv_omega
  have hnext : (s.remote.cnt + 1).toNat = s.remote.cnt.toNat + 1 := by bv_omega
  obtain ⟨hlow, hhigh⟩ := shiftIn14_bounds b hpos hcount (h.leading hcnt) h.bits
  rcases completionCheck_cases (appendR b s) with ⟨-, e⟩ | ⟨hne, e⟩ <;> rw [e]
  · exact frameReset_remoteOk { h with }
  · have h14 : (s.remote.cnt + 1).toNat ≠ 14 := hne
    exact { h with
      count := show (s.remote.cnt + 1).toNat ≤ 13 by omega
      bits := show _ < 2 ^ (s.remote.cnt + 1).toNat by rw [hnext]; exact hhigh
      leading := fun _ => show 2 ^ ((s.remote.cnt + 1).toNat - 1) ≤ _ by rw [hnext]; exact hlow
      empty := fun h0 => absurd (congrArg BitVec.toNat h0) (show (s.remote.cnt + 1).toNat ≠ 0 by omega)
      inFrame := fun _ => h.inFrame hcnt
      expected := fun _ => h.expected hcnt }

theorem completionCheck_remoteOk {s : State} (h : RemoteOk s) : RemoteOk (completionCheck s) := by
  rcases completionCheck_cases s with ⟨-, e⟩ | ⟨-, e⟩ <;> rw [e]
  · exact frameReset_remoteOk { h with }
  · exact h

/-- An edge inside a frame that the transition table accepts (R202, R213). -/
theorem enterSub_remoteOk {s : State} {n : RSub} (h : RemoteOk s) (hcnt : s.remote.cnt ≠ 0)
    (hsub : s.remote.sub ≠ .error) (hline : n.lineActive = !s.remote.sub.lineActive) :
    RemoteOk (enterSub n (measureR s)) := by
  have hmeasured := measured_remoteOk h hcnt hsub hline
  cases n with
  | midZero => exact completionCheck_appendR_remoteOk false hmeasured hcnt
  | midOne => exact completionCheck_appendR_remoteOk true hmeasured hcnt
  | startZero | startOne | error => exact completionCheck_remoteOk hmeasured

theorem remoteCapture_remoteOk {s t : State} (h : RemoteOk s) (hen : s.rcap.en = true) (ht : remoteCapture s = .ok t) :
    RemoteOk t := by
  rcases remoteCapture_cases ht with ⟨hcnt, rfl⟩ | ⟨hcnt, hsub, harm⟩ | ⟨hcnt, -, -, he⟩ | ⟨hcnt, hsub, hnext, rfl⟩
  · exact firstEdge_remoteOk h hcnt hen
  · rw [arm_eq_ok harm]
    exact (guardedError_remoteOk _ h hcnt).congr rfl rfl rfl rfl (by simp [hsub])
  · rw [enterError_eq_ok he]
    exact { guardedError_remoteOk _ h hcnt with }
  · exact enterSub_remoteOk h hcnt hsub (lineActive_nextSub hnext)

theorem remoteTimeout_remoteOk {s t : State} (h : RemoteOk s) (ht : remoteTimeout s = .ok t) : RemoteOk t := by
  rcases remoteTimeout_cases ht with ⟨-, rfl⟩ | ⟨-, rfl⟩
  · exact { frameReset_remoteOk h.toRemoteFrame with }
  · exact h

theorem take_remoteOk {src : Source} {s t : State} (h : RemoteOk s) (hp : s.highestPending = some src)
    (ht : take src s = .ok t) : RemoteOk t := by
  rcases take_cases ht with ⟨rfl, _⟩ | ⟨rfl, hh⟩ | ⟨rfl, _⟩ | ⟨rfl, hh⟩
  · exact h.of_sensorSide (take_sensorSide ht (.inl rfl))
  · have hpending := pending_of_highestPending hp
    rw [pending_rCap, Bool.and_eq_true] at hpending
    exact remoteCapture_remoteOk (s := clearPending .rCap s) { h with } hpending.1 hh
  · exact h.of_sensorSide (take_sensorSide ht (.inr rfl))
  · have hcleared : RemoteOk (clearPending .rOc s) :=
      { h with guarded := fun ha => h.guarded (ha.imp_right (absurd · Bool.false_ne_true)) }
    exact remoteTimeout_remoteOk hcleared hh

/-! ## The operations -/

theorem presentR_remoteOk {s : State} (v : Level) (h : RemoteOk s) : RemoteOk (presentR v s) := by
  rcases presentR_cases v s with ⟨_, e⟩ | ⟨_, _, _, _, e⟩ <;> rw [e]
  · exact { h with }
  · exact { h with icrTick := h.cntTick }

theorem countTick_remoteOk {s : State} (h : RemoteOk s) : RemoteOk (countTick s) :=
  { h with
    cntTick := addTicks_lt_modulus _ _ _
    ocrTick := (compareAt_ocr _ _).symm ▸ h.ocrTick
    guarded := fun ha => h.guarded (compareAt_active ha) }

theorem body_remoteOk {s b : State} (h : RemoteOk s) (hb : Body s b) : RemoteOk b := by
  cases hb with
  | nothing => exact h
  | start _ harm => exact h.of_sensorSide ((beginRequest_side s).trans (arm_S_side harm))
  | consume =>
    rw [consume_eq]
    exact { h with }
  | initialise => exact frameReset_remoteOk { h with enabled := rfl }
  | enable => exact remoteOk_of_empty { h with enabled := rfl } rfl rfl rfl rfl rfl rfl
  | disable => exact frameReset_remoteOk { h with enabled := rfl }
  | tick => exact countTick_remoteOk h
  | sline v => exact h.of_sensorSide (presentS_side v s)
  | rline v => exact presentR_remoteOk v h

theorem step_remoteOk {s t : State} (h : RemoteOk s) (hstep : step s = .next t) : RemoteOk t :=
  step_keeps
    (hfree := fun _ _ _ _ hu => { hu with })
    (hreset := fun c i _ => remoteOk_resetWith c i)
    (hbody := fun _ _ _ hu hb => body_remoteOk hu hb)
    (htake := fun _ _ _ hu hp ht => take_remoteOk hu hp ht) h hstep

end Sys2Proof.Machine
end

section
/-! PROOFS. The shared capture channel's exclusion (R35, R302), the remote's line tracking (R216), and all invariants
together. -/

namespace Sys2Proof.Machine

/-! ## The shared capture channel -/

theorem completionCheck_en (s : State) : (completionCheck s).remote.en = s.remote.en := by
  rcases completionCheck_cases s with ⟨_, e⟩ | ⟨_, e⟩ <;> rw [e]
  rfl

theorem enterSub_en (n : RSub) (s : State) : (enterSub n s).remote.en = s.remote.en := by
  cases n <;> exact completionCheck_en _

theorem remoteCapture_en {s t : State} (h : remoteCapture s = .ok t) : t.remote.en = s.remote.en := by
  rcases remoteCapture_cases h with ⟨_, rfl⟩ | ⟨_, _, harm⟩ | ⟨_, _, _, he⟩ | ⟨_, _, _, rfl⟩
  · rfl
  · rw [arm_eq_ok harm]
    rfl
  · rw [enterError_eq_ok he]
    rfl
  · exact enterSub_en _ (measureR s)

/-- No handler enables or disables the remote decoder. -/
theorem take_remote_en {src : Source} {s t : State} (h : take src s = .ok t) : t.remote.en = s.remote.en := by
  rcases take_cases h with ⟨rfl, _⟩ | ⟨rfl, hh⟩ | ⟨rfl, _⟩ | ⟨rfl, hh⟩
  · rw [(take_sensorSide h (.inl rfl)).remote]
  · have hen := remoteCapture_en hh
    exact hen
  · rw [(take_sensorSide h (.inr rfl)).remote]
  · rcases remoteTimeout_cases hh with ⟨_, rfl⟩ | ⟨_, rfl⟩ <;> rfl

theorem take_captureExclusive {src : Source} {s t : State} (h : s.CaptureExclusive) (ht : take src s = .ok t) :
    t.CaptureExclusive := by
  intro hshared hen
  obtain ⟨hcfg, -⟩ := take_common ht
  have hbusy := h (hcfg ▸ hshared) ((take_remote_en ht).symm.trans hen)
  rw [take_sensor_of_not_busy hbusy ht]
  exact hbusy

theorem body_captureExclusive {s b : State} (h : s.CaptureExclusive) (hb : Body s b) : b.CaptureExclusive := by
  cases hb with
  | nothing | tick => exact h
  | start hacc harm =>
    have hside := (beginRequest_side s).trans (arm_S_side harm)
    intro hshared hen
    rw [hside.cfg] at hshared
    rw [hside.remote] at hen
    simp [startAccepted, hshared, hen] at hacc
  | consume =>
    unfold consume
    split
    · exact h
    · exact fun _ _ => rfl
  | initialise | disable => exact fun _ hen => by cases hen
  | enable _ _ hbusy => exact fun hshared _ => hbusy hshared
  | sline v =>
    have hside := presentS_side v s
    intro hshared hen
    rw [show (presentS v s).sensor = s.sensor from lineUpdateS_sensor _]
    exact h (hside.cfg ▸ hshared) (hside.remote ▸ hen)
  | rline v => rcases presentR_cases v s with ⟨_, e⟩ | ⟨_, _, _, _, e⟩ <;> rw [e] <;> exact h

theorem step_captureExclusive {s t : State} (h : s.CaptureExclusive) (hstep : step s = .next t) : t.CaptureExclusive :=
  step_keeps (P := State.CaptureExclusive)
    (hfree := fun _ _ _ _ hu => hu)
    (hreset := fun _ _ _ _ hen => by cases hen)
    (hbody := fun _ _ _ hu hb => body_captureExclusive hu hb)
    (htake := fun _ _ _ hu _ ht => take_captureExclusive hu ht) h hstep

/-! ## The remote's line -/

/-- R216's tracking within a step under eager dispatch: until its handler runs, a latched edge is the one that the line
has just taken; otherwise, inside a frame, the armed edge is the line's next one. -/
structure LineTracked (s : State) : Prop where
  latched : s.pending .rCap = true → s.rcap.pol = edgeTo s.rLine
  next : s.pending .rCap = false → s.remote.cnt ≠ 0 → s.rcap.pol = edgeTo (!s.rLine)

theorem LineTracked.of_sensorSide {s t : State} (h : LineTracked s) (k : SensorSide s t) : LineTracked t := by
  obtain ⟨hlatched, hnext⟩ := h
  constructor
  all_goals simpa only [pending_rCap, k.rcap, k.rLine, k.remote]

/-- With nothing latched and no frame begun there is nothing to track. -/
theorem LineTracked.of_empty {s : State} (hp : s.pending .rCap = false) (hcnt : s.remote.cnt = 0) : LineTracked s where
  latched h := absurd (hp.symm.trans h) Bool.false_ne_true
  next _ hne := absurd hcnt hne

theorem completionCheck_pol (s : State) :
    (completionCheck s).rcap.pol = s.rcap.pol ∨ (completionCheck s).remote.cnt = 0 := by
  rcases completionCheck_cases s with ⟨_, e⟩ | ⟨_, e⟩ <;> rw [e]
  · exact .inr rfl
  · exact .inl rfl

theorem enterSub_pol (n : RSub) (s : State) :
    (enterSub n s).rcap.pol = s.rcap.pol ∨ (enterSub n s).remote.cnt = 0 := by
  cases n <;> exact completionCheck_pol _

/-- The remote's capture handler toggles the armed edge, or ends with no frame begun (R205, R214, R216). -/
theorem remoteCapture_pol {s t : State} (h : remoteCapture s = .ok t) :
    t.rcap.pol = s.rcap.pol.flip ∨ t.remote.cnt = 0 := by
  rcases remoteCapture_cases h with ⟨_, rfl⟩ | ⟨_, _, harm⟩ | ⟨_, _, _, he⟩ | ⟨_, _, _, rfl⟩
  · exact .inl rfl
  · rw [arm_eq_ok harm]
    exact .inl rfl
  · rw [enterError_eq_ok he]
    exact .inl rfl
  · exact enterSub_pol _ (measureR s)

/-- The guard is dispatched only with no edge of the remote latched (R264). -/
theorem rCap_not_pending_of_rOc {s : State} (h : s.highestPending = some .rOc) : s.pending .rCap = false := by
  cases hr : s.pending .rCap with
  | false => rfl
  | true =>
    rw [State.highestPending, hr] at h
    cases hs : s.pending .sCap <;> simp [hs] at h

theorem take_lineTracked {src : Source} {s t : State} (h : LineTracked s) (hp : s.highestPending = some src)
    (ht : take src s = .ok t) : LineTracked t := by
  rcases take_cases ht with ⟨rfl, _⟩ | ⟨rfl, hh⟩ | ⟨rfl, _⟩ | ⟨rfl, hh⟩
  · exact h.of_sensorSide (take_sensorSide ht (.inl rfl))
  · have hdone : t.pending .rCap = false := not_pending_after_take ht (.inr rfl)
    rcases remoteCapture_pol hh with hpol | hcnt
    · have hline := (take_remoteSide ht (.inl rfl)).rLine
      have hlatched : (clearPending .rCap s).rcap.pol = edgeTo s.rLine := h.latched (pending_of_highestPending hp)
      exact ⟨fun hpend => absurd (hdone.symm.trans hpend) Bool.false_ne_true,
        fun _ _ => by rw [hpol, hlatched, flip_edgeTo, hline]⟩
    · exact .of_empty hdone hcnt
  · exact h.of_sensorSide (take_sensorSide ht (.inr rfl))
  · have hbefore := rCap_not_pending_of_rOc hp
    rcases remoteTimeout_cases hh with ⟨_, rfl⟩ | ⟨_, rfl⟩
    · exact .of_empty hbefore rfl
    · exact ⟨h.latched, h.next⟩

/-- A level of the receiver: the line's next edge is the armed one and is latched, or the level is no new one. -/
theorem presentR_lineTracked {s : State} (v : Level) (hok : RemoteOk s) (h : LineTracked s)
    (hp : s.pending .rCap = false) : LineTracked (presentR v s) := by
  rcases presentR_cases v s with ⟨hignored, e⟩ | ⟨hen, hedge, _, _, e⟩ <;> rw [e]
  · refine ⟨fun hpend => absurd (hp.symm.trans hpend) Bool.false_ne_true, fun _ hcnt => ?_⟩
    have hpol : s.rcap.pol = edgeTo (!s.rLine) := h.next hp hcnt
    have hen : s.rcap.en = true := hok.enabled.trans (hok.inFrame hcnt)
    have hsame : v = s.rLine := by
      by_contra hne
      exact hignored ⟨hne, hen, by rw [hpol, Bool.eq_not_of_ne hne]⟩
    exact hsame ▸ hpol
  · exact ⟨fun _ => hedge.symm, fun hquiet => by simp [hen] at hquiet⟩

theorem body_lineTracked {s b : State} (hok : RemoteOk s) (h : LineTracked s) (hp : s.pending .rCap = false)
    (hb : Body s b) : LineTracked b := by
  cases hb with
  | nothing => exact h
  | start _ harm => exact h.of_sensorSide ((beginRequest_side s).trans (arm_S_side harm))
  | consume =>
    rw [consume_eq]
    exact ⟨h.latched, h.next⟩
  | initialise | enable | disable => exact .of_empty rfl rfl
  | tick => exact ⟨h.latched, h.next⟩
  | sline v => exact h.of_sensorSide (presentS_side v s)
  | rline v => exact presentR_lineTracked v hok h hp

/-- Under eager dispatch a step begins and ends with no edge latched, and tracks the line in between. -/
theorem step_remoteLineTracked {s t : State} (hok : RemoteOk s) (hsettled : s.Settled) (h : s.RemoteLineTracked)
    (hstep : step s = .next t) : t.RemoteLineTracked := by
  intro heager
  have heagerS : s.cfg.irqLatencyFree = false := noStepChangesTheConfiguration s t hstep ▸ heager
  have hquiet : ∀ {u : State}, u.cfg.irqLatencyFree = false → u.Settled → u.pending .rCap = false := fun he hu =>
    highestPending_eq_none_iff.mp (hu.resolve_left (by simp [he])) .rCap
  have hbefore := hquiet heagerS hsettled
  have hs : LineTracked s := ⟨fun hp => absurd (hbefore.symm.trans hp) Bool.false_ne_true, fun _ => h heagerS⟩
  have ht : LineTracked t := by
    refine step_reaches hstep (fun _ _ _ => ⟨hs.latched, hs.next⟩) (fun _ _ => .of_empty rfl rfl) ?_ ?_
    · intro i r b hb
      have hb' := body_lineTracked (s := { s with input := i }) { hok with } ⟨hs.latched, hs.next⟩ hbefore hb
      exact ⟨hb'.latched, hb'.next⟩
    · exact fun _ _ _ hu hp ht => take_lineTracked hu hp ht
  exact ht.next (hquiet heager (step_settled hstep hsettled))

/-! ## All of them -/

theorem inv_iff {s : State} :
    s.Inv ↔ SensorOk s ∧ RemoteOk s ∧ s.RemoteLineTracked ∧ s.CaptureExclusive ∧ s.Settled := by
  constructor
  · rintro ⟨⟨hcnt, hsicr, hricr, hsocr, hrocr, hsphase, hrphase⟩, hwired,
      ⟨hscount, hsbits, hcleared, hsen, hdriven, harmed, htemp⟩,
      ⟨hrcount, hrbits, hleading, hempty, hguarded, hren, hframe, hexpected⟩, htracked, hexclusive, hsettled⟩
    exact ⟨⟨⟨hcnt, hsicr, hsocr, hsphase, hwired, htemp⟩, hscount, hsbits, hcleared, hsen, hdriven, harmed⟩,
      ⟨⟨hcnt, hricr, hrocr, hrphase, hren⟩, hrcount, hrbits, hleading, hempty, hguarded, hframe, hexpected⟩,
      htracked, hexclusive, hsettled⟩
  · rintro ⟨hs, hr, htracked, hexclusive, hsettled⟩
    exact ⟨⟨hs.cntTick, hs.icrTick, hr.icrTick, hs.ocrTick, hr.ocrTick, hs.phaseTick, hr.phaseTick⟩, hs.wired,
      ⟨hs.count, hs.bits, hs.cleared, hs.enabled, hs.driven, hs.armed, hs.temp⟩,
      ⟨hr.count, hr.bits, hr.leading, hr.empty, hr.guarded, hr.enabled, hr.inFrame, hr.expected⟩,
      htracked, hexclusive, hsettled⟩

/-- Settles O52: each part of `State.Inv` by its own induction over the step. -/
theorem everyStepKeepsTheInvariants : Obligations.EveryStepKeepsTheInvariants := by
  intro s t hinv h
  obtain ⟨hsensor, hremote, htracked, hexclusive, hsettled⟩ := inv_iff.mp hinv
  exact inv_iff.mpr ⟨step_sensorOk hsensor h, step_remoteOk hremote h,
    step_remoteLineTracked hremote hsettled htracked h, step_captureExclusive hexclusive h, step_settled h hsettled⟩

end Sys2Proof.Machine
end

section
/-! PROOFS. The handlers of the two decoders commute (R86): a sensor handler's effect on the sensor's side does not
depend on the remote's side, nor a remote handler's effect on the remote's side on the sensor's. -/

namespace Sys2Proof.Machine

/-! ## Two states that differ on one side -/

theorem RemoteSide.exists_eq {s s' : State} (h : RemoteSide s s') :
    ∃ rcap ocR remote out trace,
      s' = { s with rcap := rcap, ocR := ocR, remote := remote, out := out, trace := trace } := by
  refine ⟨s'.rcap, s'.ocR, s'.remote, s'.out, s'.trace, ?_⟩
  rw [← h.cfg, ← h.input, ← h.result, ← h.cnt, ← h.scap, ← h.ocS, ← h.pin, ← h.rLine, ← h.sensor, ← h.refused,
    ← h.ovrS, ← h.ovrR]

theorem SensorSide.exists_eq {s s' : State} (h : SensorSide s s') :
    ∃ scap ocS pin sensor out trace ovrS,
      s' = { s with
        scap := scap, ocS := ocS, pin := pin, sensor := sensor, out := out, trace := trace, ovrS := ovrS } := by
  refine ⟨s'.scap, s'.ocS, s'.pin, s'.sensor, s'.out, s'.trace, s'.ovrS, ?_⟩
  rw [← h.cfg, ← h.input, ← h.result, ← h.cnt, ← h.rcap, ← h.ocR, ← h.rLine, ← h.remote, ← h.refused, ← h.ovrR]

theorem RemoteSide.symm {s t : State} (h : RemoteSide s t) : RemoteSide t s := by
  obtain ⟨_, _, _, _, _, rfl⟩ := h.exists_eq
  constructor <;> rfl

theorem SensorSide.symm {s t : State} (h : SensorSide s t) : SensorSide t s := by
  obtain ⟨_, _, _, _, _, _, _, rfl⟩ := h.exists_eq
  constructor <;> rfl

/-- Two states that differ on neither side have the same registers. -/
theorem sameRegisters_of_sides {s t : State} (h : RemoteSide s t) (k : SensorSide s t) : s.SameRegisters t := by
  rw [State.SameRegisters, ← h.cfg, ← h.input, ← h.result, ← h.cnt, ← h.scap, ← h.ocS, ← h.pin, ← h.rLine, ← h.sensor,
    ← h.refused, ← h.ovrS, ← h.ovrR, ← k.rcap, ← k.ocR, ← k.remote]

/-- A source is taken only when its handler answers. -/
theorem handler_of_take {src : Source} {s t : State} (h : take src s = .ok t) :
    handler src (clearPending src s) = .ok t := by
  unfold take at h
  cases hh : handler src (clearPending src s) with
  | error e => rw [hh] at h; cases h
  | ok u => rw [hh] at h; exact h

/-! ## The sensor's handlers

From two states that differ on the remote's side only, each function of the sensor's handlers ends in two such states. -/

theorem latchS_congr {s s' : State} (e : Polarity) (h : RemoteSide s s') :
    RemoteSide (latchS e s) (latchS e s') := by
  obtain ⟨_, _, _, _, _, rfl⟩ := h.exists_eq
  unfold latchS
  split <;> constructor <;> rfl

theorem lineUpdateS_congr {s s' : State} (h : RemoteSide s s') : RemoteSide (lineUpdateS s) (lineUpdateS s') := by
  unfold lineUpdateS
  rw [h.pin]
  split
  · exact h
  · exact latchS_congr _ { h with pin := rfl }

theorem startListening_congr {s s' : State} (h : RemoteSide s s') :
    RemoteSide (startListening s) (startListening s') := by
  have hdrive : RemoteSide (driveS false s) (driveS false s') :=
    lineUpdateS_congr { h with pin := congrArg (fun p : SensorPin => { p with drv := false }) h.pin }
  obtain ⟨_, _, _, _, _, e⟩ := hdrive.exists_eq
  unfold startListening
  rw [e]
  constructor <;> rfl

theorem abort_congr {s s' : State} (c : Cause) (h : RemoteSide s s') : RemoteSide (abort c s) (abort c s') := by
  obtain ⟨_, _, _, _, _, rfl⟩ := h.exists_eq
  rw [abort_eq, abort_eq]
  constructor <;> rfl

theorem finish_congr {s s' : State} (h : RemoteSide s s') : RemoteSide (finish s) (finish s') := by
  cases hsum : checksumOk s.sensor.acc
  · rw [finish_of_invalid hsum, finish_of_invalid (h.sensor ▸ hsum)]
    exact abort_congr _ h
  · rw [finish_of_valid hsum, finish_of_valid (h.sensor ▸ hsum)]
    obtain ⟨_, _, _, _, _, rfl⟩ := h.exists_eq
    constructor <;> rfl

theorem advance_congr {s s' : State} (n : SState) (h : RemoteSide s s') :
    RemoteSide (advance n s) (advance n s') := by
  obtain ⟨_, _, _, _, _, rfl⟩ := h.exists_eq
  constructor <;> rfl

theorem windowed_congr {s s' : State} (m : Bool) (n : SState) (h : RemoteSide s s') :
    RemoteSide (windowed m n s) (windowed m n s') := by
  cases m
  · exact abort_congr _ h
  · exact advance_congr n h

theorem acceptBit_congr {s s' : State} (b : Bool) (h : RemoteSide s s') :
    RemoteSide (acceptBit b s) (acceptBit b s') := by
  have happend : RemoteSide (toggleS (appendS b s)) (toggleS (appendS b s')) := by
    obtain ⟨_, _, _, _, _, rfl⟩ := h.exists_eq
    constructor <;> rfl
  unfold acceptBit
  rw [happend.sensor]
  split
  · exact finish_congr happend
  · exact { happend with sensor := congrArg (fun d : SensorDecoder => { d with state := .awaitBit }) happend.sensor }

theorem sensorEdge_congr {s s' : State} (d : Nat) (h : RemoteSide s s') :
    RemoteSide (sensorEdge d s) (sensorEdge d s') := by
  unfold sensorEdge bitPhaseEdge
  rw [h.sensor, h.cfg]
  cases s.sensor.state with
  | awaitAck | ackPhase | awaitBitStart | awaitBit => exact windowed_congr _ _ h
  | bitPhase =>
    cases bitOfHigh s.cfg d with
    | none => exact abort_congr _ h
    | some b => exact acceptBit_congr b h
  | idle | requesting | ready => exact h

theorem sensorCapture_congr {s s' : State} (h : RemoteSide s s') :
    RemoteSide (sensorCapture s) (sensorCapture s') := by
  unfold sensorCapture
  rw [h.sensor, h.cfg, h.scap]
  split
  · exact sensorEdge_congr _ { h with cfg := rfl, scap := rfl, sensor := rfl }
  · exact h

theorem arm_S_congr {s s' t t' : State} {u : Nat} (h : RemoteSide s s') (ht : arm .S u s = .ok t)
    (ht' : arm .S u s' = .ok t') : RemoteSide t t' := by
  rw [arm_eq_ok ht, arm_eq_ok ht']
  obtain ⟨_, _, _, _, _, rfl⟩ := h.exists_eq
  constructor <;> rfl

theorem sensorTimeout_congr {s s' t t' : State} (h : RemoteSide s s') (ht : sensorTimeout s = .ok t)
    (ht' : sensorTimeout s' = .ok t') : RemoteSide t t' := by
  unfold sensorTimeout at ht ht'
  rw [h.sensor, h.cfg] at ht'
  cases hstate : s.sensor.state <;> rw [hstate] at ht ht'
  case requesting => exact arm_S_congr (startListening_congr h) ht ht'
  case idle | ready => cases ht; cases ht'; exact h
  all_goals cases ht; cases ht'; exact abort_congr .timeout h

/-- A sensor handler does not see the remote's side. -/
theorem take_sensor_congr {x : Source} (hx : x = .sCap ∨ x = .sOc) {s s' t t' : State} (h : RemoteSide s s')
    (ht : take x s = .ok t) (ht' : take x s' = .ok t') : RemoteSide t t' := by
  have hcleared : RemoteSide (clearPending x s) (clearPending x s') := by
    obtain ⟨_, _, _, _, _, rfl⟩ := h.exists_eq
    rcases hx with rfl | rfl <;> constructor <;> rfl
  have k := handler_of_take ht
  have k' := handler_of_take ht'
  rcases hx with rfl | rfl
  · cases k; cases k'
    exact sensorCapture_congr hcleared
  · exact sensorTimeout_congr hcleared k k'

/-! ## The remote's handlers

From two states that differ on the sensor's side only, each function of the remote's handlers ends in two such states. -/

theorem completionCheck_congr {s s' : State} (h : SensorSide s s') :
    SensorSide (completionCheck s) (completionCheck s') := by
  unfold completionCheck
  rw [h.remote]
  split
  · obtain ⟨_, _, _, _, _, _, _, rfl⟩ := h.exists_eq
    constructor <;> rfl
  · exact h

theorem enterSub_congr {s s' : State} (n : RSub) (h : SensorSide s s') :
    SensorSide (enterSub n s) (enterSub n s') := by
  obtain ⟨_, _, _, _, _, _, _, rfl⟩ := h.exists_eq
  cases n <;> exact completionCheck_congr (by constructor <;> rfl)

theorem arm_R_congr {s s' t t' : State} {u : Nat} (h : SensorSide s s') (ht : arm .R u s = .ok t)
    (ht' : arm .R u s' = .ok t') : SensorSide t t' := by
  rw [arm_eq_ok ht, arm_eq_ok ht']
  obtain ⟨_, _, _, _, _, _, _, rfl⟩ := h.exists_eq
  constructor <;> rfl

theorem errorEdge_congr {s s' t t' : State} (h : SensorSide s s') (ht : errorEdge s = .ok t)
    (ht' : errorEdge s' = .ok t') : SensorSide t t' := by
  unfold errorEdge at ht ht'
  rw [h.cfg, h.remote] at ht'
  exact arm_R_congr h ht ht'

theorem frameEdge_congr {s s' t t' : State} {cls : PulseClass} {d : Nat} (h : SensorSide s s')
    (ht : frameEdge cls d s = .ok t) (ht' : frameEdge cls d s' = .ok t') : SensorSide t t' := by
  unfold frameEdge at ht ht'
  rw [h.remote] at ht'
  split at ht
  · rw [if_pos ‹_›] at ht'
    rw [enterError_eq_ok ht, enterError_eq_ok ht']
    obtain ⟨_, _, _, _, _, _, _, rfl⟩ := h.exists_eq
    constructor <;> rfl
  · rw [if_neg ‹_›] at ht'
    cases ht; cases ht'
    exact enterSub_congr _ h

theorem remoteCapture_congr {s s' t t' : State} (h : SensorSide s s') (ht : remoteCapture s = .ok t)
    (ht' : remoteCapture s' = .ok t') : SensorSide t t' := by
  have hmeasured : SensorSide (measureR s) (measureR s') := by
    obtain ⟨_, _, _, _, _, _, _, rfl⟩ := h.exists_eq
    constructor <;> rfl
  unfold remoteCapture at ht ht'
  rw [h.remote, h.cfg, h.rcap] at ht'
  split at ht
  · rw [if_pos ‹_›] at ht'
    cases ht; cases ht'
    obtain ⟨_, _, _, _, _, _, _, rfl⟩ := h.exists_eq
    constructor <;> rfl
  rw [if_neg ‹_›] at ht'
  split at ht
  · rw [if_pos ‹_›] at ht'
    exact errorEdge_congr hmeasured ht ht'
  · rw [if_neg ‹_›] at ht'
    exact frameEdge_congr hmeasured ht ht'

theorem remoteTimeout_congr {s s' t t' : State} (h : SensorSide s s') (ht : remoteTimeout s = .ok t)
    (ht' : remoteTimeout s' = .ok t') : SensorSide t t' := by
  unfold remoteTimeout at ht ht'
  rw [h.remote] at ht'
  split at ht
  · rw [if_pos ‹_›] at ht'
    cases ht; cases ht'
    obtain ⟨_, _, _, _, _, _, _, rfl⟩ := h.exists_eq
    constructor <;> rfl
  · rw [if_neg ‹_›] at ht'
    cases ht; cases ht'
    exact h

/-- A remote handler does not see the sensor's side. -/
theorem take_remote_congr {y : Source} (hy : y = .rCap ∨ y = .rOc) {s s' t t' : State} (h : SensorSide s s')
    (ht : take y s = .ok t) (ht' : take y s' = .ok t') : SensorSide t t' := by
  have hcleared : SensorSide (clearPending y s) (clearPending y s') := by
    obtain ⟨_, _, _, _, _, _, _, rfl⟩ := h.exists_eq
    rcases hy with rfl | rfl <;> constructor <;> rfl
  have k := handler_of_take ht
  have k' := handler_of_take ht'
  rcases hy with rfl | rfl
  · exact remoteCapture_congr hcleared k k'
  · exact remoteTimeout_congr hcleared k k'

/-- Settles O50: whichever handler runs first, the sensor's leaves the same sensor side and the remote's the same
remote side. -/
theorem handlersOfTheTwoDecodersCommute : Obligations.HandlersOfTheTwoDecodersCommute := by
  intro s a b ab ba x y hx hy hxs hya hys hxb
  have hab : RemoteSide a ab := take_remoteSide hya hy
  have haba : RemoteSide a ba := take_sensor_congr hx (take_remoteSide hys hy) hxs hxb
  have hbba : SensorSide b ba := take_sensorSide hxb hx
  have hbab : SensorSide b ab := take_remote_congr hy (take_sensorSide hxs hx) hys hya
  exact sameRegisters_of_sides (hab.symm.trans haba) (hbab.symm.trans hbba)

end Sys2Proof.Machine
end

section
/-! PROOFS. Each decoder's operations and line leave the other decoder alone (R86). -/

namespace Sys2Proof.Machine

/-- The decoder whose handler a source runs (R259). -/
def Source.decoder : Source → Channel
  | .sCap | .sOc => .S
  | .rCap | .rOc => .R

/-- `t` has the registers of `s` in one decoder, its capture unit, compare channel, line and overrun count. -/
def State.SameDecoder (s t : State) : Channel → Prop
  | .S => t.sensor = s.sensor ∧ t.scap = s.scap ∧ t.ocS = s.ocS ∧ t.pin = s.pin ∧ t.ovrS = s.ovrS
  | .R => t.remote = s.remote ∧ t.rcap = s.rcap ∧ t.ocR = s.ocR ∧ t.rLine = s.rLine ∧ t.ovrR = s.ovrR

/-- From `s` to `t` the decoder `d` was left alone, and so were the counter and the configuration. -/
structure LeavesAlone (d : Channel) (s t : State) : Prop where
  cfg : t.cfg = s.cfg
  cnt : t.cnt = s.cnt
  decoder : s.SameDecoder t d

namespace LeavesAlone

theorem refl (d : Channel) (s : State) : LeavesAlone d s s := by
  cases d <;> exact ⟨rfl, rfl, rfl, rfl, rfl, rfl, rfl⟩

theorem trans {d : Channel} {s t u : State} (h : LeavesAlone d s t) (k : LeavesAlone d t u) : LeavesAlone d s u := by
  refine ⟨k.cfg.trans h.cfg, k.cnt.trans h.cnt, ?_⟩
  obtain ⟨-, -, hd⟩ := h
  obtain ⟨-, -, kd⟩ := k
  cases d <;> simp_all [State.SameDecoder]

theorem of_remoteSide {s t : State} (h : RemoteSide s t) : LeavesAlone .S s t :=
  ⟨h.cfg, h.cnt, h.sensor, h.scap, h.ocS, h.pin, h.ovrS⟩

theorem of_sensorSide {s t : State} (h : SensorSide s t) : LeavesAlone .R s t :=
  ⟨h.cfg, h.cnt, h.remote, h.rcap, h.ocR, h.rLine, h.ovrR⟩

/-- A source of a decoder that was left alone is as pending as before. -/
theorem pending_eq {s t : State} {src : Source} (h : LeavesAlone src.decoder s t) :
    t.pending src = s.pending src := by
  obtain ⟨-, -, hd⟩ := h
  cases src <;> simp_all [Source.decoder, State.SameDecoder]

end LeavesAlone

theorem refuse_leavesAlone (d : Channel) (s : State) : LeavesAlone d s (refuse s) := by
  cases d <;> exact ⟨rfl, rfl, rfl, rfl, rfl, rfl, rfl⟩

/-- A handler leaves the other decoder alone. -/
theorem take_leavesAlone {d : Channel} {src : Source} {s t : State} (h : take src s = .ok t) (hd : src.decoder ≠ d) :
    LeavesAlone d s t := by
  cases d with
  | S => exact .of_remoteSide (take_remoteSide h (by cases src <;> simp_all [Source.decoder]))
  | R => exact .of_sensorSide (take_sensorSide h (by cases src <;> simp_all [Source.decoder]))

/-- From a settled state, an own effect that leaves a decoder alone makes none of its sources pending, so that the
dispatch after it leaves the decoder alone too. -/
theorem settle_leavesAlone {d : Channel} {s b t : State} (hs : s.Settled) (hb : LeavesAlone d s b)
    (h : settle b = .ok t) : LeavesAlone d s t := by
  rcases hs with hfree | hquiet
  · rw [settle_of_settled (.inl (hb.cfg ▸ hfree))] at h
    cases h
    exact hb
  · refine settle_keeps (P := LeavesAlone d s) ?_ hb h
    intro src u v hu hp ht
    refine hu.trans (take_leavesAlone ht ?_)
    rintro rfl
    have hpending : s.pending src = true := hu.pending_eq ▸ pending_of_highestPending hp
    simp [highestPending_eq_none_iff.mp hquiet src] at hpending

theorem commit_settle_leavesAlone {d : Channel} {s b t : State} (hs : s.Settled) (hb : LeavesAlone d s b)
    (h : commit s (settle b) = .next t) : LeavesAlone d s t := by
  rcases commit_cases h with h | rfl
  · exact settle_leavesAlone hs hb h
  · exact refuse_leavesAlone d s

theorem LeavesAlone.withResult {d : Channel} {s b : State} (h : LeavesAlone d s b) (r : Option ResultWord) :
    LeavesAlone d s { b with result := r } := by
  obtain ⟨hcfg, hcnt, hd⟩ := h
  exact ⟨hcfg, hcnt, by cases d <;> exact hd⟩

/-- A host operation leaves alone what its own effect leaves alone. -/
theorem respond_leavesAlone {d : Channel} {s b t : State} {r : ResultWord} (hs : s.Settled) (hb : LeavesAlone d s b)
    (h : respond s b r = .next t) : LeavesAlone d s t :=
  commit_settle_leavesAlone hs (hb.withResult _) h

/-- An environment event leaves alone what its own effect leaves alone. -/
theorem conclude_leavesAlone {d : Channel} {s b t : State} (hs : s.Settled) (hb : LeavesAlone d s b)
    (h : conclude s b = .next t) : LeavesAlone d s t :=
  commit_settle_leavesAlone hs (hb.withResult _) h

/-! ## The operations -/

theorem presentR_leavesAlone (v : Level) (s : State) : LeavesAlone .S s (presentR v s) := by
  rcases presentR_cases v s with ⟨-, e⟩ | ⟨-, -, _, _, e⟩ <;> rw [e] <;> exact ⟨rfl, rfl, rfl, rfl, rfl, rfl, rfl⟩

theorem consume_leavesAlone (s : State) : LeavesAlone .R s (consume s) := by
  rw [consume_eq]
  exact .of_sensorSide (by constructor <;> rfl)

theorem remoteOn_leavesAlone (s : State) : LeavesAlone .S s (remoteOn s) :=
  .of_remoteSide (by constructor <;> rfl)

theorem disable_leavesAlone (s : State) : LeavesAlone .S s (frameReset (remoteOff s)) :=
  .of_remoteSide (by constructor <;> rfl)

theorem initialise_leavesAlone (p : Bool) (s : State) : LeavesAlone .S s (initialise p s) :=
  .of_remoteSide (by constructor <;> rfl)

theorem execREnable_leavesAlone {s t : State} (hs : s.Settled) (h : execREnable s = .next t) :
    LeavesAlone .S s t := by
  unfold execREnable at h
  split at h
  · exact respond_leavesAlone hs (.refl _ s) h
  split at h
  · exact respond_leavesAlone hs (.refl _ s) h
  split at h
  · exact respond_leavesAlone hs (.refl _ s) h
  · exact respond_leavesAlone hs (remoteOn_leavesAlone s) h

theorem execSStart_leavesAlone {s t : State} (hs : s.Settled) (h : execSStart s = .next t) :
    LeavesAlone .R s t := by
  unfold execSStart at h
  split at h
  · cases harm : arm .S s.cfg.requestUs (beginRequest s) with
    | error e =>
      rw [harm] at h
      cases h
      exact refuse_leavesAlone .R s
    | ok u =>
      rw [harm] at h
      have hu : LeavesAlone .R s u := .of_sensorSide ((beginRequest_side s).trans (arm_S_side harm))
      exact commit_settle_leavesAlone hs (hu.withResult (some 1)) h
  · exact respond_leavesAlone hs (.refl _ s) h

/-- Settles O60: no own effect of one decoder's operations, and no dispatch after it, reaches the other decoder. -/
theorem decodersLeaveEachOtherAlone : Obligations.DecodersLeaveEachOtherAlone := by
  intro s t i hs h
  constructor
  · intro hi
    have key : LeavesAlone .S s t := by
      rcases hi with rfl | rfl | ⟨p, rfl⟩ | ⟨v, rfl⟩
      · exact execREnable_leavesAlone hs h
      · exact respond_leavesAlone hs (disable_leavesAlone s) h
      · exact respond_leavesAlone hs (initialise_leavesAlone p s) h
      · exact conclude_leavesAlone hs (presentR_leavesAlone v s) h
    obtain ⟨-, hcnt, hsensor, hscap, hocS, hpin, hovrS⟩ := key
    exact ⟨hsensor, hscap, hocS, hpin, hovrS, hcnt⟩
  · intro hi
    have key : LeavesAlone .R s t := by
      rcases hi with rfl | rfl | rfl | rfl | ⟨v, rfl⟩
      · exact execSStart_leavesAlone hs h
      · exact respond_leavesAlone hs (.refl _ s) h
      · exact respond_leavesAlone hs (consume_leavesAlone s) h
      · exact respond_leavesAlone hs (consume_leavesAlone s) h
      · exact conclude_leavesAlone hs (.of_sensorSide (presentS_side v s)) h
    obtain ⟨-, hcnt, hremote, hrcap, hocR, hrLine, hovrR⟩ := key
    exact ⟨hremote, hrcap, hocR, hrLine, hovrR, hcnt⟩

end Sys2Proof.Machine
end

section
/-! PROOFS. The encoder and the decoder undo each other (R90, R93, R95, R110). -/

namespace Sys2Proof.Machine

/-! ## The fields of an encoded operation -/

@[simp] theorem opcField_encode (i : Instr) : opcField (encode i) = i.opc := by
  rw [opcField, encode, BitVec.extractLsb'_append_eq_of_le (by decide)]
  exact BitVec.extractLsb'_append_eq_left

@[simp] theorem aField_encode (i : Instr) : aField (encode i) = i.fieldA := by
  rw [aField, encode, BitVec.extractLsb'_append_eq_of_le (by decide)]
  exact BitVec.extractLsb'_append_eq_right

@[simp] theorem bField_encode (i : Instr) : bField (encode i) = i.fieldB := BitVec.extractLsb'_append_eq_right

/-- A word is the encoding of an operation exactly when its fields are the operation's. -/
theorem encode_eq_iff {i : Instr} {w : CommandWord} :
    encode i = w ↔ i.opc = opcField w ∧ i.fieldA = aField w ∧ i.fieldB = bField w := by
  constructor
  · rintro rfl
    simp
  · rintro ⟨hopc, ha, hb⟩
    rw [encode, hopc, ha, hb, fields_append]

/-! ## Operand forms (R93) -/

@[simp] theorem bitOperand_setWidth (v : Bool) : bitOperand ((BitVec.ofBool v).setWidth 16) = v := by
  cases v <;> rfl

@[simp] theorem msgOperand_setWidth (m : Message) : msgOperand (m.setWidth 16) = m := by
  rw [msgOperand, BitVec.extractLsb'_setWidth_of_le (by decide), BitVec.extractLsb'_eq_self]

@[simp] theorem usOperand_append (us : BitVec 32) : us.extractLsb' 16 16 ++ us.extractLsb' 0 16 = us :=
  (BitVec.extractLsb'_append_extractLsb'_eq_extractLsb' rfl).trans BitVec.extractLsb'_eq_self

theorem setWidth_bitOperand (a : Operand) : (BitVec.ofBool (bitOperand a)).setWidth 16 = a &&& 1#16 :=
  BitVec.and_one_eq_setWidth_ofBool_getLsbD.symm

theorem setWidth_msgOperand (a : Operand) : (msgOperand a).setWidth 16 = a &&& 0x3FFF#16 := by
  have hmod : a.toNat &&& 0x3FFF = a.toNat % 2 ^ 14 := Nat.and_two_pow_sub_one_eq_mod a.toNat 14
  apply BitVec.eq_of_toNat_eq
  simp only [msgOperand, BitVec.toNat_setWidth, BitVec.extractLsb'_toNat, Nat.shiftRight_zero, BitVec.toNat_and,
    BitVec.toNat_ofNat, Nat.reducePow, Nat.reduceMod] at hmod ⊢
  omega

/-- The bits of A that an operation reads. -/
def readBitsA : Opcode → Operand
  | .tbElapsed | .tbT2us | .tbUs2t => 0xFFFF
  | .rInit | .evSline | .evRline => 1
  | .rToggle | .rAddr | .rCmd | .rExtcmd => 0x3FFF
  | .tbRdclk | .sStart | .sPoll | .sRdtemp | .sRdhum | .rEnable | .rDisable | .evTick | .evReset => 0

/-- The bits of B that an operation reads. -/
def readBitsB : Opcode → Operand
  | .tbElapsed | .tbUs2t => 0xFFFF
  | .tbRdclk | .tbT2us | .sStart | .sPoll | .sRdtemp | .sRdhum => 0
  | .rInit | .rEnable | .rDisable | .rToggle | .rAddr | .rCmd | .rExtcmd => 0
  | .evTick | .evSline | .evRline | .evReset => 0

theorem fieldA_build (o : Opcode) (a b : Operand) : (o.build a b).fieldA = a &&& readBitsA o := by
  cases o with
  | tbElapsed | tbT2us => exact BitVec.and_allOnes.symm
  | tbUs2t => exact BitVec.extractLsb'_append_eq_left.trans BitVec.and_allOnes.symm
  | rInit | evSline | evRline => exact setWidth_bitOperand a
  | rToggle | rAddr | rCmd | rExtcmd => exact setWidth_msgOperand a
  | tbRdclk | sStart | sPoll | sRdtemp | sRdhum | rEnable | rDisable | evTick | evReset => exact BitVec.and_zero.symm

theorem fieldB_build (o : Opcode) (a b : Operand) : (o.build a b).fieldB = b &&& readBitsB o := by
  cases o with
  | tbElapsed => exact BitVec.and_allOnes.symm
  | tbUs2t => exact BitVec.extractLsb'_append_eq_right.trans BitVec.and_allOnes.symm
  | _ => exact BitVec.and_zero.symm

/-! ## The opcode table (R95) -/

/-- A row fixes OPC to that of its operation, and to 0 exactly the operand bits that the operation does not read. -/
theorem opcodeTable_fields : ∀ r ∈ opcodeTable,
    (opcField r.mask = BitVec.allOnes 8 ∧ opcField r.pattern = (r.op.build 0 0).opc) ∧
    (aField r.mask = ~~~readBitsA r.op ∧ aField r.pattern = 0#16) ∧
    (bField r.mask = ~~~readBitsB r.op ∧ bField r.pattern = 0#16) := by decide

/-- The zero_mask of a row sees nothing of a word that has the row's fixed bits. -/
theorem pattern_and_zeroMask : ∀ r ∈ opcodeTable, r.pattern &&& 0x00FFFFFFFF#40 = 0#40 := by decide

theorem opc_build (o : Opcode) (a b : Operand) : (o.build a b).opc = (o.build 0 0).opc := by cases o <;> rfl

/-- The row that an operation's OPC finds builds the operation from its own fields. -/
theorem build_fields {i : Instr} {r : OpcodeRow} (h : rowOf i.opc = some r) : r.op.build i.fieldA i.fieldB = i := by
  cases i with
  | tbUs2t us => cases h; exact congrArg Instr.tbUs2t (usOperand_append us)
  | rInit v => cases h; exact congrArg Instr.rInit (bitOperand_setWidth v)
  | evSline v => cases h; exact congrArg Instr.evSline (bitOperand_setWidth v)
  | evRline v => cases h; exact congrArg Instr.evRline (bitOperand_setWidth v)
  | rToggle m => cases h; exact congrArg Instr.rToggle (msgOperand_setWidth m)
  | rAddr m => cases h; exact congrArg Instr.rAddr (msgOperand_setWidth m)
  | rCmd m => cases h; exact congrArg Instr.rCmd (msgOperand_setWidth m)
  | rExtcmd m => cases h; exact congrArg Instr.rExtcmd (msgOperand_setWidth m)
  | _ => cases h; rfl

open Laws.EncodeMatchesTable in
/-- The per-operation statements of Laws/PerInstr.lean, together. -/
theorem encode_matches_table (i : Instr) : Statement i := by
  cases i with
  | tbRdclk => exact tbRdclk
  | tbElapsed later earlier => exact tbElapsed later earlier
  | tbT2us ticks => exact tbT2us ticks
  | tbUs2t us => exact tbUs2t us
  | sStart => exact sStart
  | sPoll => exact sPoll
  | sRdtemp => exact sRdtemp
  | sRdhum => exact sRdhum
  | rInit v => exact rInit v
  | rEnable => exact rEnable
  | rDisable => exact rDisable
  | rToggle m => exact rToggle m
  | rAddr m => exact rAddr m
  | rCmd m => exact rCmd m
  | rExtcmd m => exact rExtcmd m
  | evTick => exact evTick
  | evSline v => exact evSline v
  | evRline v => exact evRline v
  | evReset => exact evReset

/-! ## Both directions -/

theorem decode_encode {c : Config} {i : Instr} (hi : i.wf c = true) : decode c (encode i) = .ok i := by
  obtain ⟨r, hr, hfixed⟩ := encode_matches_table i
  have hreserved : encode i &&& r.zeroMask = 0#40 :=
    calc encode i &&& r.zeroMask = encode i &&& r.mask &&& 0x00FFFFFFFF#40 := (BitVec.and_assoc ..).symm
      _ = 0#40 := by rw [hfixed, pattern_and_zeroMask r (rowOf_eq_some hr).1]
  simp [decode, hr, hreserved, build_fields hr, hi]

theorem and_eq_self_of_and_not {x y : Operand} (h : x &&& ~~~y = 0#16) : x &&& y = x :=
  calc x &&& y = (x &&& y) ||| (x &&& ~~~y) := by rw [h, BitVec.or_zero]
    _ = x := by rw [← BitVec.and_or_distrib_left, BitVec.or_not_self, BitVec.and_allOnes]

/-- A word with a row's fixed bits is the encoding of the operation that the row builds from it. -/
theorem encode_build {w : CommandWord} {r : OpcodeRow} (hr : r ∈ opcodeTable) (hfixed : w &&& r.mask = r.pattern) :
    encode (r.op.build (aField w) (bField w)) = w := by
  obtain ⟨⟨hopcMask, hopc⟩, ⟨haMask, ha⟩, ⟨hbMask, hb⟩⟩ := opcodeTable_fields r hr
  have hfields : ∀ start len, w.extractLsb' start len &&& r.mask.extractLsb' start len =
      r.pattern.extractLsb' start len := by simp [← BitVec.extractLsb'_and, hfixed]
  rw [encode_eq_iff]
  refine ⟨?_, ?_, ?_⟩
  · have hopcField : opcField w &&& opcField r.mask = opcField r.pattern := hfields 32 8
    rw [hopcMask, BitVec.and_allOnes] at hopcField
    rw [hopcField, hopc, opc_build]
  · have haField : aField w &&& aField r.mask = aField r.pattern := hfields 16 16
    rw [haMask, ha] at haField
    rw [fieldA_build, and_eq_self_of_and_not haField]
  · have hbField : bField w &&& bField r.mask = bField r.pattern := hfields 0 16
    rw [hbMask, hb] at hbField
    rw [fieldB_build, and_eq_self_of_and_not hbField]

/-- What decode accepts: the encodings of the well-formed operations (R93, R110). -/
theorem decode_eq_ok_iff {c : Config} {w : CommandWord} {i : Instr} :
    decode c w = .ok i ↔ encode i = w ∧ i.wf c = true := by
  constructor
  · intro h
    obtain ⟨r, hr, hfixed, rfl, hwf⟩ := decode_eq_ok h
    exact ⟨encode_build hr hfixed, hwf⟩
  · rintro ⟨rfl, hwf⟩
    exact decode_encode hwf

/-- Settles O9: the row that the operation's OPC finds accepts its encoding and builds it from its own fields. -/
theorem decodeOfEncodeIsTheOperation : Obligations.DecodeOfEncodeIsTheOperation :=
  fun _ _ hwf => decode_encode hwf

/-- Settles O10: a row's mask and the bits that its operation reads make up the word. -/
theorem encodeOfDecodeIsTheWord : Obligations.EncodeOfDecodeIsTheWord :=
  fun _ _ _ h => decode_eq_ok_iff.mp h

end Sys2Proof.Machine
end

section
/-! PROOFS. The illegal words (R110), and words written out (R95, R113, R114). -/

namespace Sys2Proof.Machine

/-! ## Legal and illegal words (R110) -/

/-- No well-formed operation's encoding is illegal. -/
theorem not_illegalWord_encode {c : Config} {i : Instr} (hi : i.wf c = true) : ¬IllegalWord c (encode i) := by
  have hbit : ∀ v, ((BitVec.ofBool v).setWidth 16).toNat < 2 := by decide
  have hmsg : ∀ m : Message, (m.setWidth 16).toNat < 2 ^ 14 := fun m => by
    rw [BitVec.toNat_setWidth_of_le (by decide)]
    exact m.isLt
  unfold IllegalWord
  rw [opcField_encode, aField_encode, bField_encode]
  cases i with
  | tbElapsed later earlier =>
    simpa [Instr.opc, Instr.fieldA, Instr.fieldB, legalOpcodes, bareOpcodes, Instr.wf, tickInRange] using hi
  | rInit v | evSline v | evRline v =>
    have hv := hbit v
    simpa [Instr.opc, Instr.fieldA, Instr.fieldB, legalOpcodes, bareOpcodes] using hv
  | rToggle m | rAddr m | rCmd m | rExtcmd m =>
    have hm := hmsg m
    simpa [Instr.opc, Instr.fieldA, Instr.fieldB, legalOpcodes, bareOpcodes] using hm
  | _ => simp [Instr.opc, Instr.fieldA, Instr.fieldB, legalOpcodes, bareOpcodes]

/-- The legal opcodes by their operand forms (R93, R95). -/
theorem legalOpcodes_forms : ∀ o ∈ legalOpcodes, o ∈ bareOpcodes ∨ o ∈ [0x20#8, 0x81, 0x82] ∨
    o ∈ [0x28#8, 0x29, 0x2A, 0x2B] ∨ o = 0x03 ∨ o = 0x02 ∨ o = 0x04 := by decide

theorem exists_of_bareOpcode {o : BitVec 8} (c : Config) (ho : o ∈ bareOpcodes) :
    ∃ i : Instr, i.wf c = true ∧ i.opc = o ∧ i.fieldA = 0 ∧ i.fieldB = 0 := by
  fin_cases ho
  exacts [⟨.tbRdclk, rfl, rfl, rfl, rfl⟩, ⟨.sStart, rfl, rfl, rfl, rfl⟩, ⟨.sPoll, rfl, rfl, rfl, rfl⟩,
    ⟨.sRdtemp, rfl, rfl, rfl, rfl⟩, ⟨.sRdhum, rfl, rfl, rfl, rfl⟩, ⟨.rEnable, rfl, rfl, rfl, rfl⟩,
    ⟨.rDisable, rfl, rfl, rfl, rfl⟩, ⟨.evTick, rfl, rfl, rfl, rfl⟩, ⟨.evReset, rfl, rfl, rfl, rfl⟩]

theorem exists_of_bitOpcode {o : BitVec 8} (c : Config) (v : Bool) (ho : o ∈ [0x20#8, 0x81, 0x82]) :
    ∃ i : Instr, i.wf c = true ∧ i.opc = o ∧ i.fieldA = (BitVec.ofBool v).setWidth 16 ∧ i.fieldB = 0 := by
  fin_cases ho
  exacts [⟨.rInit v, rfl, rfl, rfl, rfl⟩, ⟨.evSline v, rfl, rfl, rfl, rfl⟩, ⟨.evRline v, rfl, rfl, rfl, rfl⟩]

theorem exists_of_msgOpcode {o : BitVec 8} (c : Config) (m : Message) (ho : o ∈ [0x28#8, 0x29, 0x2A, 0x2B]) :
    ∃ i : Instr, i.wf c = true ∧ i.opc = o ∧ i.fieldA = m.setWidth 16 ∧ i.fieldB = 0 := by
  fin_cases ho
  exacts [⟨.rToggle m, rfl, rfl, rfl, rfl⟩, ⟨.rAddr m, rfl, rfl, rfl, rfl⟩, ⟨.rCmd m, rfl, rfl, rfl, rfl⟩,
    ⟨.rExtcmd m, rfl, rfl, rfl, rfl⟩]

theorem setWidth_bitOperand_of_lt {a : Operand} (ha : a.toNat < 2) :
    (BitVec.ofBool (bitOperand a)).setWidth 16 = a := by
  apply BitVec.eq_of_toNat_eq
  rw [setWidth_bitOperand, BitVec.toNat_and]
  exact (Nat.and_one_is_mod _).trans (Nat.mod_eq_of_lt ha)

theorem setWidth_msgOperand_of_lt {a : Operand} (ha : a.toNat < 2 ^ 14) : (msgOperand a).setWidth 16 = a := by
  apply BitVec.eq_of_toNat_eq
  rw [msgOperand, BitVec.toNat_setWidth_of_le (by decide), BitVec.extractLsb'_toNat, Nat.shiftRight_zero,
    Nat.mod_eq_of_lt ha]

/-- Every word that is not illegal is the encoding of a well-formed operation. -/
theorem exists_encode_eq {c : Config} {w : CommandWord} (hw : ¬IllegalWord c w) :
    ∃ i : Instr, encode i = w ∧ i.wf c = true := by
  simp only [IllegalWord, not_or, not_and_or, not_not] at hw
  obtain ⟨hlegal, hbare, hbit, hmsg, ht2us, helapsed⟩ := hw
  rcases legalOpcodes_forms _ hlegal with ho | ho | ho | ho | ho | ho
  · obtain ⟨ha, hb⟩ := hbare.resolve_left (not_not.mpr ho)
    obtain ⟨i, hwf, hopc, hia, hib⟩ := exists_of_bareOpcode c ho
    exact ⟨i, encode_eq_iff.mpr ⟨hopc, hia.trans ha.symm, hib.trans hb.symm⟩, hwf⟩
  · obtain ⟨ha, hb⟩ := hbit.resolve_left (not_not.mpr ho)
    obtain ⟨i, hwf, hopc, hia, hib⟩ := exists_of_bitOpcode c (bitOperand (aField w)) ho
    exact ⟨i, encode_eq_iff.mpr ⟨hopc, hia.trans (setWidth_bitOperand_of_lt ha), hib.trans hb.symm⟩, hwf⟩
  · obtain ⟨ha, hb⟩ := hmsg.resolve_left (not_not.mpr ho)
    obtain ⟨i, hwf, hopc, hia, hib⟩ := exists_of_msgOpcode c (msgOperand (aField w)) ho
    exact ⟨i, encode_eq_iff.mpr ⟨hopc, hia.trans (setWidth_msgOperand_of_lt ha), hib.trans hb.symm⟩, hwf⟩
  · have hb := ht2us.resolve_left (not_not.mpr ho)
    exact ⟨.tbT2us (aField w), encode_eq_iff.mpr ⟨ho.symm, rfl, hb.symm⟩, rfl⟩
  · obtain ⟨ha, hb⟩ := helapsed.resolve_left (not_not.mpr ho)
    exact ⟨.tbElapsed (aField w) (bField w), encode_eq_iff.mpr ⟨ho.symm, rfl, rfl⟩,
      by simp [Instr.wf, tickInRange, not_le.mp ha, not_le.mp hb]⟩
  · exact ⟨.tbUs2t (aField w ++ bField w), encode_eq_iff.mpr
      ⟨ho.symm, BitVec.extractLsb'_append_eq_left, BitVec.extractLsb'_append_eq_right⟩, rfl⟩

/-- The decoder accepts exactly the words that are not illegal. -/
theorem not_illegalWord_iff {c : Config} {w : CommandWord} : ¬IllegalWord c w ↔ ∃ i, decode c w = .ok i := by
  simp only [decode_eq_ok_iff]
  constructor
  · exact exists_encode_eq
  · rintro ⟨i, rfl, hi⟩
    exact not_illegalWord_encode hi

theorem illegalWord_iff {c : Config} {w : CommandWord} : IllegalWord c w ↔ ∃ e, decode c w = .error e := by
  rw [← not_iff_not, not_illegalWord_iff]
  cases decode c w <;> simp

/-- Settles O7: the words that the decoder rejects are the illegal ones, and the step refuses those. -/
theorem exactlyTheIllegalWordsAreRefused : Obligations.ExactlyTheIllegalWordsAreRefused := by
  intro s w rest hwf hin
  rw [step_of_input hwf hin]
  constructor
  · intro hillegal
    obtain ⟨e, he⟩ := illegalWord_iff.mp hillegal
    simp [runStimulus, he, refuse]
  · intro hlegal
    obtain ⟨i, hi⟩ := not_illegalWord_iff.mp hlegal
    exact ⟨i, hi, runStimulus_of_decode hi⟩

/-! ## Words written out -/

/-- Settles O8, by running the decoder on each word. -/
theorem writtenWordsDecode : Obligations.WrittenWordsDecode := by
  unfold Obligations.WrittenWordsDecode
  decide

theorem assembleLines_singleton (l : AsmLine) : assembleLines [l] = l.expand.map encode := by
  simp [assembleLines]

theorem map_encode_ticks (n : Nat) :
    (List.replicate n Instr.evTick).map encode = List.replicate n 0x8000000000#40 := List.map_replicate

theorem assembleLines_of_expand {l : AsmLine} {i : Instr} {n : Nat} (h : l.expand = i :: List.replicate n .evTick) :
    assembleLines [l] = encode i :: List.replicate n 0x8000000000#40 := by
  rw [assembleLines_singleton, h, List.map_cons, map_encode_ticks]

/-- Settles O11: a pseudo-instruction expands into its level word, if it has one, and `n` words `EV.TICK`. -/
theorem pseudoInstructionsExpand : Obligations.PseudoInstructionsExpand := by
  intro n
  refine ⟨(assembleLines_singleton _).trans (map_encode_ticks n), ?_, ?_, ?_, ?_⟩
  · exact assembleLines_of_expand (i := .evSline false) rfl
  · exact assembleLines_of_expand (i := .evSline true) rfl
  · exact assembleLines_of_expand (i := .evRline false) rfl
  · exact assembleLines_of_expand (i := .evRline true) rfl

end Sys2Proof.Machine
end

section
/-! PROOFS. No delay is refused (R12, R131): from a state that meets the invariants every handler answers, and only the
decoder sets REFUSED. -/

namespace Sys2Proof.Machine

/-! ## Every handler answers -/

theorem arm_answers {ch : Channel} {c : Config} {u : Nat} {s : State} (hcfg : s.cfg = c)
    (h : schedulable c u = true) : ∃ t, arm ch u s = .ok t :=
  ⟨_, arm_of_schedulable (hcfg.symm ▸ h)⟩

/-- The watchdog's delay is one of WF3 (R12, R164). -/
theorem sensorTimeout_answers {s : State} (hwf : s.cfg.wf = true) : ∃ t, sensorTimeout s = .ok t := by
  unfold sensorTimeout
  cases s.sensor.state with
  | requesting => exact arm_answers (startListening_side s).cfg (wf_watchdog hwf)
  | _ => exact ⟨_, rfl⟩

theorem enterError_answers {cls : PulseClass} {d : Nat} {s : State}
    (h : schedulable s.cfg (guardUs s.cfg s.remote.cnt.toNat) = true) : ∃ t, enterError cls d s = .ok t := by
  obtain ⟨u, hu⟩ := arm_answers (ch := .R) (s := { s with remote := { s.remote with sub := .error } }) rfl h
  exact ⟨record _ u, by rw [enterError, hu]; rfl⟩

/-- The guard of a frame of 1 to 13 bits is one of WF3's delays (R12, R204, R215, R217). -/
theorem remoteCapture_answers {s : State} (hwf : s.cfg.wf = true) (h : RemoteOk s) : ∃ t, remoteCapture s = .ok t := by
  unfold remoteCapture
  split
  · exact ⟨_, rfl⟩
  have hguard : schedulable s.cfg (guardUs s.cfg s.remote.cnt.toNat) = true := wf_guard hwf (by bv_omega) h.count
  split
  · exact arm_answers rfl hguard
  unfold frameEdge
  split
  · exact enterError_answers hguard
  · exact ⟨_, rfl⟩

theorem remoteTimeout_answers (s : State) : ∃ t, remoteTimeout s = .ok t := by
  unfold remoteTimeout
  split <;> exact ⟨_, rfl⟩

theorem take_answers (src : Source) {s : State} (hwf : s.cfg.wf = true) (h : RemoteOk s) :
    ∃ t, take src s = .ok t := by
  have hhandler : ∃ t, handler src (clearPending src s) = .ok t := by
    cases src with
    | sCap => exact ⟨_, rfl⟩
    | rCap => exact remoteCapture_answers (s := clearPending .rCap s) hwf { h with }
    | sOc => exact sensorTimeout_answers hwf
    | rOc => exact remoteTimeout_answers _
  obtain ⟨t, ht⟩ := hhandler
  exact ⟨t, take_of_handler ht⟩

/-! ## The end of an operation -/

theorem dispatchLoop_answers (n : Nat) {s : State} (hwf : s.cfg.wf = true) (h : RemoteOk s) :
    ∃ t, dispatchLoop n s = .ok t := by
  induction n generalizing s with
  | zero => exact ⟨s, rfl⟩
  | succ n ih =>
    cases hp : s.highestPending with
    | none => exact ⟨s, dispatchLoop_of_none hp⟩
    | some src =>
      obtain ⟨u, hu⟩ := take_answers src hwf h
      obtain ⟨hcfg, -⟩ := take_common hu
      rw [dispatchLoop_of_some hp, hu]
      exact ih (hcfg ▸ hwf) (take_remoteOk h hp hu)

theorem settle_answers {s : State} (hwf : s.cfg.wf = true) (h : RemoteOk s) : ∃ t, settle s = .ok t := by
  unfold settle
  split
  · exact ⟨s, rfl⟩
  · exact dispatchLoop_answers 4 hwf h

/-! ## REFUSED -/

theorem take_refused {src : Source} {s t : State} (h : take src s = .ok t) : t.refused = s.refused := by
  obtain ⟨-, -, -, -, -, hrefused⟩ := take_common h
  exact hrefused

theorem body_refused {s b : State} (h : Body s b) : b.refused = s.refused := by
  cases h with
  | nothing | initialise | enable | disable | tick => rfl
  | start _ harm => exact ((beginRequest_side s).trans (arm_S_side harm)).refused
  | consume => rw [consume_eq]
  | sline v => exact (presentS_side v s).refused
  | rline v => rcases presentR_cases v s with ⟨_, e⟩ | ⟨_, _, _, _, e⟩ <;> rw [e]

/-- What a well-formed operation does, but for a reset: its own effect, then its dispatch. -/
theorem exec_eq_commit {i : Instr} {s : State} (hwf : s.cfg.wf = true) (hi : i.wf s.cfg = true) (hr : i ≠ .evReset) :
    ∃ b r, Body s b ∧ exec i s = commit s (settle { b with result := r }) := by
  cases i with
  | tbElapsed later earlier => exact ⟨s, _, .nothing, if_pos hi⟩
  | tbRdclk | tbT2us | tbUs2t | sPoll | rToggle | rAddr | rCmd | rExtcmd => exact ⟨s, _, .nothing, rfl⟩
  | sStart =>
    by_cases ha : startAccepted s = true
    · have hcfg : (beginRequest s).cfg = s.cfg := (beginRequest_side s).cfg
      obtain ⟨b, harm⟩ := arm_answers (ch := .S) hcfg (wf_request hwf)
      refine ⟨b, some 1, .start ha harm, ?_⟩
      rw [exec, execSStart, if_pos ha, harm]
      rfl
    · exact ⟨s, _, .nothing, if_neg ha⟩
  | sRdtemp | sRdhum => exact ⟨_, _, .consume, rfl⟩
  | rInit p => exact ⟨_, _, .initialise p, rfl⟩
  | rEnable =>
    simp only [exec, execREnable]
    split
    · exact ⟨s, _, .nothing, rfl⟩
    split
    · exact ⟨s, _, .nothing, rfl⟩
    split
    · exact ⟨s, _, .nothing, rfl⟩
    · rename_i hinitd hen hshared
      exact ⟨_, _, .enable (by simpa using hinitd) (by simpa using hen) (by simpa using hshared), rfl⟩
  | rDisable => exact ⟨_, _, .disable, rfl⟩
  | evTick => exact ⟨_, _, .tick, rfl⟩
  | evSline v => exact ⟨_, _, .sline v, rfl⟩
  | evRline v => exact ⟨_, _, .rline v, rfl⟩
  | evReset => exact absurd rfl hr

/-- A well-formed operation does not set REFUSED. -/
theorem exec_refused {i : Instr} {s t : State} (hwf : s.cfg.wf = true) (hi : i.wf s.cfg = true) (h : RemoteOk s)
    (hs : s.refused = false) (ht : exec i s = .next t) : t.refused = false := by
  by_cases hr : i = .evReset
  · subst hr
    cases ht
    rfl
  obtain ⟨b, r, hb, he⟩ := exec_eq_commit hwf hi hr
  have hbwf : b.cfg.wf = true := body_cfg hb ▸ hwf
  have hbok : RemoteOk { b with result := r } := { body_remoteOk h hb with }
  obtain ⟨u, hu⟩ := settle_answers (s := { b with result := r }) hbwf hbok
  rw [he, hu] at ht
  cases ht
  have hbs : ({ b with result := r } : State).refused = false := (body_refused hb).trans hs
  exact settle_keeps (P := fun v => v.refused = false) (fun _ _ _ hv _ hk => (take_refused hk).trans hv) hbs hu

/-- A dispatch step does not set REFUSED. -/
theorem dispatchStep_refused {s t : State} (hwf : s.cfg.wf = true) (h : RemoteOk s) (hs : s.refused = false)
    (ht : dispatchStep s = .next t) : t.refused = false := by
  unfold dispatchStep at ht
  split at ht
  · split at ht
    · cases ht; exact hs
    · rename_i src _
      obtain ⟨u, hu⟩ := take_answers src (s := { s with result := none }) hwf { h with }
      rw [hu] at ht
      cases ht
      exact (take_refused hu).trans hs
  · cases ht; exact hs

/-- Settles O55: a stimulus that sets REFUSED is a word that the decoder rejects. -/
theorem onlyIllegalWordsAreRefused : Obligations.OnlyIllegalWordsAreRefused := by
  intro s t hinv hs hstep ht
  obtain ⟨-, hremote, -⟩ := inv_iff.mp hinv
  obtain ⟨hwf, ⟨-, rfl⟩ | ⟨x, rest, hin, hx⟩⟩ := step_cases hstep
  · exact absurd (hs.symm.trans ht) Bool.false_ne_true
  have hfetched : RemoteOk { s with input := rest } := { hremote with }
  have hunset (h : t.refused = false) : False := Bool.false_ne_true (h.symm.trans ht)
  rcases runStimulus_cases hx with ⟨w, e, rfl, hd, -⟩ | ⟨w, i, rfl, hd, he⟩ | ⟨rfl, hd⟩
  · exact ⟨w, rest, hin, illegalWord_iff.mpr ⟨e, hd⟩⟩
  · exact (hunset (exec_refused (s := { s with input := rest }) hwf (decode_eq_ok_iff.mp hd).2 hfetched hs he)).elim
  · exact (hunset (dispatchStep_refused (s := { s with input := rest }) hwf hfetched hs hd)).elim

end Sys2Proof.Machine
end

section
/-! PROOFS. Intervals and conversions of the Timebase (R122 to R125), and its host operations (R145 to R148). -/

namespace Sys2Proof.Machine

/-! ## Intervals and conversions -/

theorem elapsedTicks_addTicks {c : Config} {a : Nat} (d : Nat) (ha : a < c.modulus) :
    elapsedTicks c (addTicks c a d) a = d % c.modulus := by
  have hwrap : a + d + (c.modulus - a) = d + c.modulus := by omega
  rw [elapsedTicks_eq_mod c _ a ha, addTicks, Nat.mod_add_mod, hwrap, Nat.add_mod_right]

/-- Settles O16: the counter's wrap and that of the subtraction cancel. -/
theorem intervalReadsModuloTheCounter : Obligations.IntervalReadsModuloTheCounter :=
  fun _ _ d ha => elapsedTicks_addTicks d ha

/-- The number of ticks that is the integer remainder of R122. -/
theorem elapsedTicks_eq_of_emod {c : Config} {later earlier n : Nat}
    (h : (n : Int) = ((later : Int) - earlier + c.modulus) % c.modulus) : elapsedTicks c later earlier = n := by
  rw [elapsedTicks, ← h, Int.toNat_natCast]

/-- A delay's ticks are the least number of ticks that lasts at least the delay (R124). -/
theorem usToTicks_le_iff {c : Config} (hwf : c.wf = true) {u t : Nat} :
    usToTicks c u ≤ t ↔ u * c.fCpuHz ≤ 1000000 * (t * c.prescaler) := by
  obtain ⟨-, hwf2, -⟩ := wf_parts hwf
  obtain ⟨-, hprescaler⟩ := wf2_iff.mp hwf2
  rw [usToTicks, ceilDiv, ← Nat.ceilDiv_eq_add_pred_div, ceilDiv_le_iff_le_mul (by omega), Nat.mul_assoc,
    Nat.mul_comm c.prescaler]

/-! ## Result words (R96) -/

theorem toNat_resultOfNat {n : Nat} (h : n < 2 ^ 32) : (resultOfNat n).toNat = n := by
  rw [resultOfNat, BitVec.toNat_ofNat, Nat.mod_eq_of_lt h]

theorem toNat_elapsedResult {c : Config} {later earlier : Operand} (h : elapsed c later.toNat earlier.toNat < 2 ^ 32) :
    (elapsedResult c later earlier).toNat = elapsed c later.toNat earlier.toNat := by
  rw [elapsedResult, if_pos h, toNat_resultOfNat h]

theorem toNat_t2usResult {c : Config} {ticks : Operand} (h : ticksToUs c ticks.toNat < 2 ^ 32) :
    (t2usResult c ticks).toNat = ticksToUs c ticks.toNat := by
  rw [t2usResult, if_pos h, toNat_resultOfNat h]

theorem toNat_us2tResult (c : Config) (us : BitVec 32) :
    (us2tResult c us).toNat = min (usToTicks c us.toNat) (2 ^ 32 - 1) :=
  toNat_resultOfNat (by omega)

/-! ## Host operations -/

/-- `TB.ELAPSED` by the range of its operands (R110 (c), R146). -/
theorem exec_tbElapsed_of_inRange {s : State} {later earlier : Operand} (hs : s.Settled)
    (hlater : later.toNat < s.cfg.modulus) (hearlier : earlier.toNat < s.cfg.modulus) :
    exec (.tbElapsed later earlier) s = .next { s with result := some (elapsedResult s.cfg later earlier) } := by
  rw [exec, execTbElapsed, if_pos (by simp [tickInRange, hlater, hearlier])]
  exact respond_of_settled hs

theorem exec_tbElapsed_of_outOfRange {s : State} {later earlier : Operand}
    (h : s.cfg.modulus ≤ later.toNat ∨ s.cfg.modulus ≤ earlier.toNat) :
    exec (.tbElapsed later earlier) s = .next (refuse s) := by
  rw [exec, execTbElapsed, if_neg (by simp [tickInRange]; omega)]

/-- Settles O12: the operation has no effect of its own and the counter is its result. -/
theorem rdclkAnswersTheCounter : Obligations.RdclkAnswersTheCounter :=
  fun _ hs => ⟨decode_eq_ok_iff.mpr ⟨rfl, rfl⟩, respond_of_settled hs⟩

/-- Settles O13, with the range of the operands decided as the decoder decides it. -/
theorem elapsedAnswersTheDuration : Obligations.ElapsedAnswersTheDuration := by
  intro s later earlier hs
  refine ⟨rfl, ?_, exec_tbElapsed_of_outOfRange⟩
  rintro ⟨hlater, hearlier⟩
  refine ⟨_, exec_tbElapsed_of_inRange hs hlater hearlier, ?_⟩
  rintro n d hn rfl hfits
  have hd : elapsed s.cfg later.toNat earlier.toNat = 1000000 * (n * s.cfg.prescaler) / s.cfg.fCpuHz := by
    rw [elapsed, elapsedTicks_eq_of_emod hn, ticksToUs]
  rw [toNat_elapsedResult (hd ▸ hfits), hd]

/-- Settles O14: the operation has no effect of its own and its result is R123's quotient where that fits. -/
theorem t2usAnswersMicroseconds : Obligations.T2usAnswersMicroseconds := by
  intro s ticks hs
  refine ⟨rfl, _, respond_of_settled hs, ?_⟩
  rintro d rfl hfits
  exact toNat_t2usResult hfits

/-- Settles O15: the quotient rounded up is the least number of ticks that lasts long enough. -/
theorem us2tAnswersTicks : Obligations.Us2tAnswersTicks := by
  intro s us hs hwf
  exact ⟨rfl, _, usToTicks s.cfg us.toNat, respond_of_settled hs, (usToTicks_le_iff hwf).mp le_rfl,
    fun _ hlasts => (usToTicks_le_iff hwf).mpr hlasts, toNat_us2tResult s.cfg us⟩

end Sys2Proof.Machine
end

section
/-! PROOFS. A tick (R140) and a line level (R141 to R144) up to their dispatch. -/

namespace Sys2Proof.Machine

/-! ## EV.TICK -/

theorem compareAt_eq (ch : CompareChannel) (n : Nat) :
    ch.compareAt n = if ch.oca = true ∧ ch.ocr = n then { ch with oca := false, ocf := true } else ch := by
  split
  · rename_i h
    exact compareAt_of_match h.1 h.2
  · exact compareAt_of_no_match ‹_›

/-- A tick after which nothing waits for a dispatch is its own effect (R140). -/
theorem exec_evTick_of_settled {s : State} (h : (countTick s).Settled) :
    exec .evTick s = .next { countTick s with result := none } :=
  conclude_of_settled h

/-- Settles O17: the state that the statement writes out is the own effect of the tick. -/
theorem tickCountsAndCompares : Obligations.TickCountsAndCompares := by
  rintro s t n rfl ht hsettled
  have hown : t = { countTick s with result := none } := by
    simp only [ht, countTick, compareAt_eq]
    rfl
  subst hown
  exact exec_evTick_of_settled hsettled

/-! ## EV.SLINE and EV.RLINE -/

/-- Settles O23: a line that moves without an armed edge makes nothing pending. -/
theorem sensorLevelWithoutACapture : Obligations.SensorLevelWithoutACapture := by
  intro s v hs hignored
  have hown := presentS_of_ignored hignored
  have hsettled : (presentS v s).Settled := hown ▸ hs
  rw [exec, execEvSline, conclude_of_settled hsettled, hown]

/-- Settles O37: a line that moves without an armed edge makes nothing pending. -/
theorem remoteLevelWithoutACapture : Obligations.RemoteLevelWithoutACapture := by
  intro s v hs hignored
  have hown := presentR_of_ignored hignored
  have hsettled : (presentR v s).Settled := hown ▸ hs
  rw [exec, execEvRline, conclude_of_settled hsettled, hown]

/-- Settles O24: in the latency variant the latched edge is the whole step. -/
theorem sensorEdgeIsLatched : Obligations.SensorEdgeIsLatched := by
  intro s v hfree hen hline hedge
  have hsettled : (presentS v s).Settled := .inl ((presentS_side v s).cfg ▸ hfree)
  rw [exec, execEvSline, conclude_of_settled hsettled, presentS_of_armed hline hen hedge]

/-- Settles O38: in the latency variant the latched edge is the whole step. -/
theorem remoteEdgeIsLatched : Obligations.RemoteEdgeIsLatched := by
  intro s v hfree hen hline hedge
  have hcfg : (presentR v s).cfg = s.cfg := body_cfg (.rline v)
  have hsettled : (presentR v s).Settled := .inl (hcfg ▸ hfree)
  rw [exec, execEvRline, conclude_of_settled hsettled, presentR_of_armed hline hen hedge]

end Sys2Proof.Machine
end

section
/-! PROOFS. An armed channel and the ticks that are left to it (R131, R133, R140). -/

namespace Sys2Proof.Machine

/-- A channel that matches `m` ticks after the counter value `cnt`; with none left it has just matched (R133). -/
def CompareChannel.dueIn (c : Config) (cnt m : Nat) : CompareChannel :=
  { ocr := addTicks c cnt m, oca := decide (m ≠ 0), ocf := decide (m = 0) }

/-- What `arm` leaves is due in the ticks it was armed for (R131). -/
theorem armedAt_eq_dueIn (c : Config) (cnt : Nat) {m : Nat} (h : m ≠ 0) :
    CompareChannel.armedAt c cnt m = .dueIn c cnt m := by
  simp [CompareChannel.armedAt, CompareChannel.dueIn, h]

theorem addTicks_addTicks (c : Config) (a t u : Nat) : addTicks c (addTicks c a t) u = addTicks c a (t + u) := by
  rw [addTicks, addTicks, addTicks, Nat.mod_add_mod, Nat.add_assoc]

/-- Fewer than MODULUS further ticks bring the counter back to a Tick only if they are none (R33). -/
theorem addTicks_add_eq_iff {c : Config} {a t m : Nat} (h : m < c.modulus) :
    addTicks c a (t + m) = addTicks c a t ↔ m = 0 := by
  constructor
  · intro heq
    have hmod : a + t + m ≡ a + t + 0 [MOD c.modulus] := by rwa [addTicks, ← Nat.add_assoc] at heq
    exact (Nat.ModEq.add_left_cancel' _ hmod).eq_of_lt_of_lt h (modulus_pos c)
  · rintro rfl
    rfl

/-- The counter's next value brings a channel one tick nearer to its match, and no match comes early (R133). -/
theorem compareAt_dueIn {c : Config} {cnt m : Nat} (h : m < c.modulus) :
    (CompareChannel.dueIn c cnt (m + 1)).compareAt (addTicks c cnt 1) = .dueIn c (addTicks c cnt 1) m := by
  have hocr : addTicks c cnt (m + 1) = addTicks c (addTicks c cnt 1) m := by rw [addTicks_addTicks, Nat.add_comm m]
  have hmatch : addTicks c cnt (m + 1) = addTicks c cnt 1 ↔ m = 0 := by
    rw [Nat.add_comm m]
    exact addTicks_add_eq_iff h
  by_cases hm : m = 0
  · rw [compareAt_of_match rfl (hmatch.mpr hm)]
    simp [CompareChannel.dueIn, hm, addTicks]
  · rw [compareAt_of_no_match fun hfires => hm (hmatch.mp hfires.2)]
    simp [CompareChannel.dueIn, hm, hocr]

/-- All that arm needs to answer (R131). -/
theorem schedulable_of_arm {ch : Channel} {u : Nat} {s t : State} (h : arm ch u s = .ok t) :
    schedulable s.cfg u = true := by
  unfold arm at h
  split at h
  · cases h
  · exact schedulable_iff.mpr (by omega)

@[simp] theorem channel_setChannel (s : State) (ch : Channel) (x : CompareChannel) :
    (s.setChannel ch x).channel ch = x := by cases ch <;> rfl

@[simp] theorem setChannel_cnt (s : State) (ch : Channel) (x : CompareChannel) : (s.setChannel ch x).cnt = s.cnt := by
  cases ch <;> rfl

@[simp] theorem setChannel_cfg (s : State) (ch : Channel) (x : CompareChannel) : (s.setChannel ch x).cfg = s.cfg := by
  cases ch <;> rfl

theorem channel_countTick (s : State) (ch : Channel) :
    (countTick s).channel ch = (s.channel ch).compareAt (addTicks s.cfg s.cnt 1) := by cases ch <;> rfl

theorem afterTicks_succ {k : Nat} {s t : State} (h : exec .evTick s = .next t) :
    afterTicks (k + 1) s = afterTicks k t := by
  rw [afterTicks, h]

/-- In the latency variant ticks only count: `k` of them leave a channel `k` ticks nearer to its match (R133, R266). -/
theorem channel_afterTicks {ch : Channel} (k : Nat) {m : Nat} {s : State} (hfree : s.cfg.irqLatencyFree = true)
    (hlt : k + m < s.cfg.modulus) (h : s.channel ch = .dueIn s.cfg s.cnt (k + m)) :
    (afterTicks k s).channel ch = .dueIn s.cfg (afterTicks k s).cnt m := by
  induction k generalizing s with
  | zero => rwa [Nat.zero_add] at h
  | succ k ih =>
    have hnext : k + m < s.cfg.modulus := by omega
    have hdue : (countTick s).channel ch = .dueIn s.cfg (countTick s).cnt (k + m) := by
      rw [channel_countTick, h, Nat.add_right_comm, compareAt_dueIn hnext, countTick_cnt]
    rw [afterTicks_succ (exec_evTick_of_settled (.inl hfree))]
    exact ih (s := { countTick s with result := none }) hfree hnext (by cases ch <;> exact hdue)

/-- Settles O18: after `k` ticks the channel is due in the ticks that are left. -/
theorem channelFiresOnTheArmedTick : Obligations.ChannelFiresOnTheArmedTick := by
  intro s a ch u k hfree _ harm
  obtain ⟨hpos, hmax⟩ := schedulable_bounds (schedulable_of_arm harm)
  have ha := arm_eq_ok harm
  have hcfg : a.cfg = s.cfg := by rw [ha, setChannel_cfg]
  have hcnt : a.cnt = s.cnt := by rw [ha, setChannel_cnt]
  have harmed : a.channel ch = .dueIn s.cfg s.cnt (usToTicks s.cfg u) := by
    rw [ha, channel_setChannel, armedAt_eq_dueIn _ _ (by omega)]
  have hdue : ∀ m, k + m = usToTicks s.cfg u → (afterTicks k a).channel ch = .dueIn a.cfg (afterTicks k a).cnt m := by
    intro m hm
    exact channel_afterTicks k (hcfg ▸ hfree) (by rw [hcfg]; omega) (by rw [harmed, hm, hcfg, hcnt])
  constructor
  · intro hlt
    have hleft : usToTicks s.cfg u - k ≠ 0 := by omega
    simp [hdue (usToTicks s.cfg u - k) (by omega), CompareChannel.dueIn, hleft]
  · intro heq
    simp [hdue 0 heq, CompareChannel.dueIn]

end Sys2Proof.Machine
end

section
/-! PROOFS. Under eager dispatch no capture is overrun (R144, R261). -/

namespace Sys2Proof.Machine

/-- `t` has counted the overruns that `s` has (R144). -/
structure SameOverruns (s t : State) : Prop where
  ovrS : t.ovrS = s.ovrS
  ovrR : t.ovrR = s.ovrR

theorem SameOverruns.trans {s t u : State} (h : SameOverruns s t) (k : SameOverruns t u) : SameOverruns s u :=
  ⟨k.ovrS.trans h.ovrS, k.ovrR.trans h.ovrR⟩

/-! ## The handlers -/

theorem abort_ovrS (c : Cause) (s : State) : (abort c s).ovrS = s.ovrS := by rw [abort_eq]

theorem finish_ovrS (s : State) : (finish s).ovrS = s.ovrS := by
  cases h : checksumOk s.sensor.acc with
  | false => rw [finish_of_invalid h, abort_ovrS]
  | true => rw [finish_of_valid h]

theorem acceptBit_ovrS (b : Bool) (s : State) : (acceptBit b s).ovrS = s.ovrS := by
  rcases acceptBit_cases b s with ⟨_, e⟩ | ⟨_, e⟩ <;> rw [e]
  · exact finish_ovrS _
  · rfl

theorem sensorCapture_ovrS (s : State) : (sensorCapture s).ovrS = s.ovrS := by
  rcases sensorCapture_cases s with ⟨_, e⟩ | ⟨_, _, e⟩ | ⟨_, e⟩ | ⟨_, b, _, e⟩ <;> rw [e]
  · rfl
  · exact abort_ovrS _ _
  · exact acceptBit_ovrS b _

/-- The release of the line at the end of the request latches no edge, because capture is off (R47 (d), R164). -/
theorem sensorTimeout_ovrS {s t : State} (hok : SensorOk s) (h : sensorTimeout s = .ok t) : t.ovrS = s.ovrS := by
  rcases sensorTimeout_cases h with ⟨hst, harm⟩ | ⟨_, rfl⟩ | ⟨_, rfl⟩
  · have hoff : s.scap.en = false := by rw [hok.enabled, hst]; rfl
    rw [arm_eq_ok harm, startListening_of_off hoff]
    rfl
  · exact abort_ovrS _ s
  · rfl

theorem SensorOk.clearPending_sOc {s : State} (h : SensorOk s) : SensorOk (clearPending .sOc s) :=
  { h with armed := fun ha => h.armed (ha.imp_right (absurd · Bool.false_ne_true)) }

theorem take_sameOverruns {src : Source} {s t : State} (hok : SensorOk s) (h : take src s = .ok t) :
    SameOverruns s t := by
  rcases take_cases h with ⟨rfl, rfl⟩ | ⟨rfl, _⟩ | ⟨rfl, hh⟩ | ⟨rfl, _⟩
  · exact ⟨sensorCapture_ovrS _, (take_sensorSide h (.inl rfl)).ovrR⟩
  · have hside := take_remoteSide h (.inl rfl)
    exact ⟨hside.ovrS, hside.ovrR⟩
  · exact ⟨sensorTimeout_ovrS (s := clearPending .sOc s) hok.clearPending_sOc hh, (take_sensorSide h (.inr rfl)).ovrR⟩
  · have hside := take_remoteSide h (.inr rfl)
    exact ⟨hside.ovrS, hside.ovrR⟩

/-! ## The operations -/

/-- With no captured edge waiting, a level of the sensor device overruns none (R144). -/
theorem presentS_sameOverruns (v : Level) {s : State} (hq : s.pending .sCap = false) :
    SameOverruns s (presentS v s) := by
  by_cases h : (v && !s.pin.drv) ≠ s.pin.line ∧ s.scap.en = true ∧ edgeTo (v && !s.pin.drv) = s.scap.pol
  · obtain ⟨hline, hen, hedge⟩ := h
    have hpf : s.scap.pf = false := by simpa [hen] using hq
    rw [presentS_of_armed hline hen hedge]
    exact ⟨by simp [hpf], rfl⟩
  · rw [presentS_of_ignored h]
    exact ⟨rfl, rfl⟩

/-- With no captured edge waiting, a level of the receiver overruns none (R144). -/
theorem presentR_sameOverruns (v : Level) {s : State} (hq : s.pending .rCap = false) :
    SameOverruns s (presentR v s) := by
  by_cases h : v ≠ s.rLine ∧ s.rcap.en = true ∧ edgeTo v = s.rcap.pol
  · obtain ⟨hline, hen, hedge⟩ := h
    have hpf : s.rcap.pf = false := by simpa [hen] using hq
    rw [presentR_of_armed hline hen hedge]
    exact ⟨rfl, by simp [hpf]⟩
  · rw [presentR_of_ignored h]
    exact ⟨rfl, rfl⟩

theorem body_sameOverruns {s b : State} (hq : s.highestPending = none) (hb : Body s b) : SameOverruns s b := by
  have hquiet := highestPending_eq_none_iff.mp hq
  cases hb with
  | nothing | initialise | enable | disable | tick => exact ⟨rfl, rfl⟩
  | start _ harm =>
    rw [arm_eq_ok harm, beginRequest_eq]
    exact ⟨rfl, rfl⟩
  | consume =>
    rw [consume_eq]
    exact ⟨rfl, rfl⟩
  | sline v => exact presentS_sameOverruns v (hquiet .sCap)
  | rline v => exact presentR_sameOverruns v (hquiet .rCap)

/-- Where the next stimulus does not reset the block it is not the word `EV.RESET` (R290). -/
theorem input_ne_reset_of_noResetNext {s : State} {i : List Stimulus} (hn : s.NoResetNext) :
    s.input ≠ .word 0x8F00000000#40 :: i := by
  intro hin
  have hreset : (Stimulus.word 0x8F00000000#40).isReset = false := hn _ (by simp [hin])
  simp [Stimulus.isReset] at hreset

/-- Settles O57: an operation finds no captured edge waiting, and no handler latches one. -/
theorem noOverrunUnderEagerDispatch : Obligations.NoOverrunUnderEagerDispatch := by
  intro s t heager hinv hstep hn
  obtain ⟨hsensor, -, -, -, hsettled⟩ := inv_iff.mp hinv
  have hq : s.highestPending = none := hsettled.resolve_left (by simp [heager])
  obtain ⟨-, hS, hR⟩ : SensorOk t ∧ SameOverruns s t := by
    refine step_reaches (Q := fun u => SensorOk u ∧ SameOverruns s u) hstep ?_ ?_ ?_ ?_
    · exact fun _ _ _ => ⟨{ hsensor with }, rfl, rfl⟩
    · exact fun _ hin => absurd hin (input_ne_reset_of_noResetNext hn)
    · intro i r b hb
      have hbok := body_sensorOk (s := { s with input := i }) { hsensor with } hb
      obtain ⟨hS, hR⟩ := body_sameOverruns (s := { s with input := i }) hq hb
      exact ⟨{ hbok with }, hS, hR⟩
    · rintro src u v ⟨hok, hsame⟩ _ ht
      exact ⟨take_sensorOk hok ht, hsame.trans (take_sameOverruns hok ht)⟩
  exact ⟨hS, hR⟩

end Sys2Proof.Machine
end

section
/-! PROOFS. Ticks under eager dispatch: both channels in one tick (R261, R264), and the length of the request pulse
(R133, R163, R164). -/

namespace Sys2Proof.Machine

/-! ## Operations and the invariants -/

/-- A well-formed operation is a step's whole effect, when its word is offered (R17). -/
theorem step_offer_encode {i : Instr} {s : State} (hwf : s.cfg.wf = true) (hi : i.wf s.cfg = true) :
    step (offer (encode i) s) = exec i s :=
  stepRunsTheDecodedOperation (offer (encode i) s) (encode i) s.input i hwf rfl (decode_encode hi)

/-- Every well-formed operation keeps the invariants. -/
theorem exec_inv {i : Instr} {s t : State} (hwf : s.cfg.wf = true) (hi : i.wf s.cfg = true) (h : s.Inv)
    (he : exec i s = .next t) : t.Inv :=
  everyStepKeepsTheInvariants (offer (encode i) s) t h ((step_offer_encode hwf hi).trans he)

/-- Under eager dispatch nothing is pending between steps (R261). -/
theorem quiet_of_inv {s : State} (heager : s.cfg.irqLatencyFree = false) (h : s.Inv) : s.highestPending = none := by
  obtain ⟨-, -, -, -, hsettled⟩ := inv_iff.mp h
  exact hsettled.resolve_left (by simp [heager])

/-! ## Dispatch -/

/-- The only pending source is the one dispatch takes. -/
theorem highestPending_of_only {s : State} {src : Source} (hp : s.pending src = true)
    (honly : ∀ x, s.pending x = true → x = src) : s.highestPending = some src := by
  cases h : s.highestPending with
  | none => exact absurd hp (by simp [highestPending_eq_none_iff.mp h src])
  | some x => rw [honly x (pending_of_highestPending h)]

/-- With no captured edge waiting, the sensor's channel goes first (R264). -/
theorem highestPending_eq_sOc {s : State} (hs : s.pending .sCap = false) (hr : s.pending .rCap = false)
    (hp : s.pending .sOc = true) : s.highestPending = some .sOc := by
  simp only [State.highestPending, hs, hr, hp, if_true, if_false, Bool.false_eq_true]

theorem settle_of_eager {s : State} (heager : s.cfg.irqLatencyFree = false) : settle s = dispatchLoop 4 s := by
  rw [settle, if_neg (by simp [heager]), dispatch]

/-- Under eager dispatch the end of an operation takes the first pending source and goes on (R261). -/
theorem settle_of_first {s a : State} {src : Source} (heager : s.cfg.irqLatencyFree = false)
    (hp : s.highestPending = some src) (ha : take src s = .ok a) : settle s = dispatchLoop 3 a := by
  rw [settle_of_eager heager, dispatchLoop_of_some hp, ha]
  rfl

/-- The loop leaves a decoder alone of which no source is pending (R86, R265). -/
theorem dispatchLoop_leavesAlone {d : Channel} {n : Nat} {s t : State}
    (hq : ∀ src, src.decoder = d → s.pending src = false) (h : dispatchLoop n s = .ok t) : LeavesAlone d s t := by
  refine dispatchLoop_keeps (P := LeavesAlone d s) ?_ n s t (.refl d s) h
  intro src u v hu hp ht
  refine hu.trans (take_leavesAlone ht ?_)
  rintro rfl
  have hpending : s.pending src = true := hu.pending_eq ▸ pending_of_highestPending hp
  exact absurd hpending (by simp [hq src rfl])

/-- With neither of its two sources pending, no source of the sensor decoder is pending (R259). -/
theorem sensor_quiet {s : State} (hcap : s.pending .sCap = false) (hoc : s.pending .sOc = false) :
    ∀ src : Source, src.decoder = .S → s.pending src = false
  | .sCap, _ => hcap
  | .sOc, _ => hoc

/-! ## A tick -/

/-- A tick is answered: no delay that its handlers arm is refused (R12, R131). -/
theorem exec_evTick_answers {s : State} (hwf : s.cfg.wf = true) (h : RemoteOk s) :
    ∃ t, settle { countTick s with result := none } = .ok t ∧ exec .evTick s = .next t := by
  obtain ⟨t, ht⟩ := settle_answers (s := { countTick s with result := none }) hwf { countTick_remoteOk h with }
  refine ⟨t, ht, ?_⟩
  rw [exec, execEvTick, conclude, ht]
  rfl

/-- Settles O51: the tick makes exactly the two channels pending, and each handler leaves the other's
source as it was. -/
theorem oneTickFiresBothChannels : Obligations.OneTickFiresBothChannels := by
  rintro s t n hwf hinv heager rfl hocaS hocrS hocaR hocrR ht
  have hown : t = { countTick s with result := none } := by
    simp only [ht, countTick, addTicks, compareAt_of_match hocaS hocrS, compareAt_of_match hocaR hocrR]
  obtain ⟨-, hremote, -⟩ := inv_iff.mp hinv
  have htremote : RemoteOk t := hown ▸ { countTick_remoteOk hremote with }
  have hquiet := highestPending_eq_none_iff.mp (quiet_of_inv heager hinv)
  have hsCap : t.pending .sCap = false := by rw [ht]; exact hquiet .sCap
  have hrCap : t.pending .rCap = false := by rw [ht]; exact hquiet .rCap
  have hfired : ∀ x, t.pending x = true → x = .sOc ∨ x = .rOc := by
    intro x hx
    cases x with
    | sCap => exact absurd hx (by simp [hsCap])
    | rCap => exact absurd hx (by simp [hrCap])
    | sOc => exact .inl rfl
    | rOc => exact .inr rfl
  have hfirst : t.highestPending = some .sOc := highestPending_eq_sOc hsCap hrCap (by rw [ht]; rfl)
  obtain ⟨a, ha⟩ := take_answers .sOc (s := t) (by rw [ht]; exact hwf) htremote
  have hside := take_sensorSide ha (.inr rfl)
  have hlast : ∀ x, a.pending x = true → x = .rOc := fun x hx =>
    have ⟨hbefore, hne⟩ := pending_after_take ha hx
    (hfired x hbefore).resolve_left hne
  have hsecond : a.highestPending = some .rOc :=
    highestPending_of_only (by rw [pending_rOc, hside.ocR, ht]) hlast
  obtain ⟨b, hb⟩ := take_answers .rOc (s := a) (by rw [hside.cfg, ht]; exact hwf) (htremote.of_sensorSide hside)
  have hdone : b.highestPending = none := none_pending_after_take hb hlast
  refine ⟨a, b, ha, hb, ?_, hdone⟩
  rw [exec, execEvTick, conclude, ← hown, settle_of_first (by rw [ht]; exact heager) hfirst ha,
    dispatchLoop_of_some hsecond, hb]
  exact congrArg (commit s) (dispatchLoop_of_none hdone)

/-! ## The request pulse -/

/-- The end of the request pulse, taken as an interrupt (R164, case Requesting). -/
theorem take_sOc_of_requesting {s : State} (hwf : s.cfg.wf = true) (hst : s.sensor.state = .requesting)
    (hoff : s.scap.en = false) :
    take .sOc s = .ok { s with
      pin := { env := s.pin.env, drv := false, line := s.pin.env }
      out := s.out ++ [.sdrive false]
      scap := { s.scap with pol := .falling, pf := false, en := true }
      sensor := { s.sensor with state := .awaitAck, phase := s.cnt }
      ocS := .armedAt s.cfg s.cnt (usToTicks s.cfg s.cfg.sensorWatchdogUs) } := by
  have hlistens := startListening_of_off (s := clearPending .sOc s) hoff
  have harm := arm_of_schedulable (ch := .S) (s := startListening (clearPending .sOc s))
    (by rw [hlistens]; exact wf_watchdog hwf)
  rw [hlistens] at harm
  apply take_of_handler
  rw [handler, sensorTimeout, show (clearPending .sOc s).sensor.state = .requesting from hst, hlistens]
  exact harm

/-- The request pulse runs under eager dispatch and ends in `m` ticks (R163). -/
structure RequestRunning (m : Nat) (s : State) : Prop where
  wf : s.cfg.wf = true
  eager : s.cfg.irqLatencyFree = false
  inv : s.Inv
  requesting : s.sensor.state = .requesting
  due : s.ocS = .dueIn s.cfg s.cnt m
  inRange : m < s.cfg.modulus

namespace RequestRunning

theorem driven {m : Nat} {s : State} (h : RequestRunning m s) : s.pin.drv = true := by
  obtain ⟨hsensor, -⟩ := inv_iff.mp h.inv
  rw [hsensor.driven, h.requesting]
  rfl

theorem captureOff {m : Nat} {s : State} (h : RequestRunning m s) : s.scap.en = false := by
  obtain ⟨hsensor, -⟩ := inv_iff.mp h.inv
  rw [hsensor.enabled, h.requesting]
  rfl

theorem tick_ocS {m : Nat} {s : State} (h : RequestRunning (m + 1) s) :
    (countTick s).ocS = .dueIn s.cfg (addTicks s.cfg s.cnt 1) m := by
  have hlt := h.inRange
  rw [countTick_ocS, h.due, compareAt_dueIn (by omega)]

/-- A tick before the last one leaves the pulse running, whatever the remote's guard does in it. -/
theorem tick {m : Nat} {s : State} (h : RequestRunning (m + 2) s) :
    ∃ t, exec .evTick s = .next t ∧ t.cfg = s.cfg ∧ t.cnt = addTicks s.cfg s.cnt 1 ∧ RequestRunning (m + 1) t := by
  obtain ⟨-, hremote, -⟩ := inv_iff.mp h.inv
  obtain ⟨t, hset, ht⟩ := exec_evTick_answers h.wf hremote
  have hcap : (countTick s).pending .sCap = false := by simp [h.captureOff]
  have hoc : (countTick s).pending .sOc = false := by rw [pending_sOc, h.tick_ocS]; simp [CompareChannel.dueIn]
  rw [settle_of_eager (s := { countTick s with result := none }) h.eager] at hset
  obtain ⟨hcfg, hcnt, hsensor, -, hocS, -⟩ :=
    dispatchLoop_leavesAlone (s := { countTick s with result := none }) (sensor_quiet hcap hoc) hset
  have hlt := h.inRange
  refine ⟨t, ht, hcfg, hcnt, ?_⟩
  constructor
  · exact hcfg ▸ h.wf
  · exact hcfg ▸ h.eager
  · exact exec_inv h.wf rfl h.inv ht
  · rw [hsensor]; exact h.requesting
  · rw [hocS, hcfg, hcnt]; exact h.tick_ocS
  · rw [hcfg]; exact show m + 1 < s.cfg.modulus by omega

/-- The last tick ends the pulse: the line is released and the decoder listens from this Tick on (R164). -/
theorem lastTick {s : State} (h : RequestRunning 1 s) :
    ∃ t, exec .evTick s = .next t ∧ t.sensor.state = .awaitAck ∧ t.pin.drv = false ∧
      t.sensor.phase = addTicks s.cfg s.cnt 1 := by
  obtain ⟨-, hremote, -⟩ := inv_iff.mp h.inv
  obtain ⟨t, hset, ht⟩ := exec_evTick_answers h.wf hremote
  have hquiet := highestPending_eq_none_iff.mp (quiet_of_inv h.eager h.inv)
  have hfirst : ({ countTick s with result := none } : State).highestPending = some .sOc :=
    highestPending_eq_sOc (hquiet .sCap) (hquiet .rCap) (congrArg CompareChannel.ocf h.tick_ocS)
  have hlistens := take_sOc_of_requesting (s := { countTick s with result := none }) h.wf h.requesting h.captureOff
  rw [settle_of_first (s := { countTick s with result := none }) h.eager hfirst hlistens] at hset
  obtain ⟨-, -, hsensor, -, -, hpin, -⟩ := dispatchLoop_leavesAlone (sensor_quiet rfl rfl) hset
  exact ⟨t, ht, by rw [hsensor], by rw [hpin], by rw [hsensor, countTick_cnt]⟩

theorem running_afterTicks (k : Nat) {m : Nat} {s : State} (h : RequestRunning (k + (m + 1)) s) :
    RequestRunning (m + 1) (afterTicks k s) := by
  induction k generalizing s with
  | zero => rwa [Nat.zero_add] at h
  | succ k ih =>
    rw [Nat.succ_add_eq_add_succ] at h
    obtain ⟨t, ht, -, -, hrunning⟩ := h.tick (m := k + m)
    rw [afterTicks_succ ht]
    exact ih hrunning

/-- Until its last tick the pulse runs; the last one ends it. -/
theorem ends_afterTicks (k : Nat) {s : State} (h : RequestRunning (k + 1) s) :
    (afterTicks (k + 1) s).sensor.state = .awaitAck ∧ (afterTicks (k + 1) s).pin.drv = false ∧
      (afterTicks (k + 1) s).sensor.phase = addTicks s.cfg s.cnt (k + 1) := by
  induction k generalizing s with
  | zero =>
    obtain ⟨t, ht, hends⟩ := h.lastTick
    rw [afterTicks_succ ht]
    exact hends
  | succ k ih =>
    obtain ⟨t, ht, hcfg, hcnt, hrunning⟩ := h.tick
    obtain ⟨hstate, hdrv, hphase⟩ := ih hrunning
    rw [afterTicks_succ ht]
    refine ⟨hstate, hdrv, ?_⟩
    rw [hphase, hcfg, hcnt, addTicks_addTicks, Nat.add_comm 1]

end RequestRunning

/-- The effect of an accepted `S.START`, in closed form (R163). -/
def State.requested (s : State) : State :=
  { s with
    sensor := { s.sensor with state := .requesting, acc := 0, cnt := 0 }
    scap := s.scap.off
    pin := { s.pin with drv := true, line := false }
    ocS := .armedAt s.cfg s.cnt (usToTicks s.cfg s.cfg.requestUs)
    out := s.out ++ [.sdrive true] }

/-- The request's delay is one of WF3, so an accepted start is not refused (R12, R163). -/
theorem arm_beginRequest {s : State} (hwf : s.cfg.wf = true) :
    arm .S s.cfg.requestUs (beginRequest s) = .ok s.requested := by
  rw [beginRequest_eq]
  exact arm_of_schedulable (wf_request hwf)

theorem requested_settled {s : State} (hs : s.Settled) : s.requested.Settled := by
  refine settled_of_no_new_pending hs rfl fun x hx => ?_
  cases x with
  | sCap | sOc => cases hx
  | rCap | rOc => exact hx

theorem exec_sStart_of_accepted {s : State} (hwf : s.cfg.wf = true) (hs : s.Settled) (ha : startAccepted s = true) :
    exec .sStart s = .next { s.requested with result := some 1 } := by
  rw [exec, execSStart, if_pos ha, arm_beginRequest hwf]
  exact respond_of_settled (requested_settled hs)

theorem exec_sStart_of_ignored {s : State} (hs : s.Settled) (ha : startAccepted s ≠ true) :
    exec .sStart s = .next { s with result := some 0 } := by
  rw [exec, execSStart, if_neg ha]
  exact respond_of_settled hs

/-- After an accepted start the request pulse runs, with all its ticks to come (R163). -/
theorem requestRunning_of_start {s a : State} (hwf : s.cfg.wf = true) (heager : s.cfg.irqLatencyFree = false)
    (hinv : s.Inv) (hstart : exec .sStart s = .next a) (hresult : a.result = some 1) :
    a.cfg = s.cfg ∧ a.cnt = s.cnt ∧ RequestRunning (usToTicks s.cfg s.cfg.requestUs) a := by
  obtain ⟨hpos, hmax⟩ := schedulable_bounds (wf_request hwf)
  have hainv := exec_inv hwf rfl hinv hstart
  have hs : s.Settled := .inr (quiet_of_inv heager hinv)
  by_cases ha : startAccepted s = true
  · rw [exec_sStart_of_accepted hwf hs ha] at hstart
    cases hstart
    exact ⟨rfl, rfl, hwf, heager, hainv, rfl, armedAt_eq_dueIn _ _ (by omega), show _ < s.cfg.modulus by omega⟩
  · rw [exec_sStart_of_ignored hs ha] at hstart
    cases hstart
    cases hresult

/-- Settles O31: the pulse runs with one tick less after each tick, and its last tick ends it. -/
theorem requestPulseLastsItsTicks : Obligations.RequestPulseLastsItsTicks := by
  intro s a k hwf heager hinv hstart hresult
  obtain ⟨hcfg, hcnt, hrunning⟩ := requestRunning_of_start hwf heager hinv hstart hresult
  constructor
  · intro hlt
    obtain ⟨m, hm⟩ := Nat.exists_eq_add_of_lt hlt
    have hstill := RequestRunning.running_afterTicks k (m := m) (s := a) (by rwa [hm] at hrunning)
    exact ⟨hstill.requesting, hstill.driven⟩
  · rintro rfl
    obtain ⟨j, hj⟩ := Nat.exists_eq_succ_of_ne_zero (n := usToTicks s.cfg s.cfg.requestUs)
      (by have := schedulable_bounds (wf_request hwf); omega)
    rw [hj] at hrunning ⊢
    rw [← hcfg, ← hcnt]
    exact hrunning.ends_afterTicks

end Sys2Proof.Machine
end

section
/-! PROOFS. The sensor decoder's host operations (R163, R173 to R175). -/

namespace Sys2Proof.Machine

/-! ## S.START -/

theorem startAccepted_iff {s : State} :
    startAccepted s = true ↔ s.sensor.state = .idle ∧ ¬(s.cfg.sharedCapture = true ∧ s.remote.en = true) := by
  simp [startAccepted, Decidable.imp_iff_not_or]

/-- Settles O19: the two cases of the statement are the two answers of `startAccepted`. -/
theorem startAcceptedOrIgnored : Obligations.StartAcceptedOrIgnored := by
  intro s hwf hs
  refine ⟨decode_encode (i := .sStart) rfl, ?_, ?_⟩
  · intro haccepted
    exact exec_sStart_of_accepted hwf hs (startAccepted_iff.mpr haccepted)
  · intro hignored
    refine exec_sStart_of_ignored hs fun haccepted => ?_
    obtain ⟨hidle, hfree⟩ := startAccepted_iff.mp haccepted
    exact hignored.elim (fun hne => hne hidle) hfree

/-! ## S.POLL -/

theorem pollCode_eq (x : SState) : x.pollCode = if x = .idle then 0 else if x = .ready then 2 else 1 := by
  cases x <;> rfl

/-- Settles O20: the operation has no effect of its own and the state's code is its result. -/
theorem pollAnswersTheStateClass : Obligations.PollAnswersTheStateClass := by
  intro s hs
  refine ⟨decode_encode (i := .sPoll) rfl, ?_⟩
  rw [← pollCode_eq]
  exact respond_of_settled hs

/-! ## S.RDTEMP and S.RDHUM -/

/-- A consuming read answers its word, with Ready consumed to Idle (R174, R175). -/
theorem respond_consume {s : State} (r : ResultWord) (hs : s.Settled) :
    respond s (consume s) r = .next { s with
      result := some r
      sensor := { s.sensor with state := if s.sensor.state = .ready then .idle else s.sensor.state } } := by
  rw [consume_eq]
  exact respond_of_settled hs

theorem toNat_tempResult (t : Int) : ((tempResult t).toNat : Int) = t % 65536 := by
  have hlt : (BitVec.ofInt 16 t).toNat < 2 ^ 32 := lt_trans (BitVec.isLt _) (by decide)
  rw [tempResult, BitVec.toNat_setWidth, Nat.mod_eq_of_lt hlt, BitVec.toNat_ofInt,
    Int.toNat_of_nonneg (Int.emod_nonneg _ (by decide))]
  rfl

/-- Settles O21: the read consumes, and its result is the temperature modulo 2^16. -/
theorem rdtempAnswersAndConsumes : Obligations.RdtempAnswersAndConsumes :=
  fun s hs _ _ => ⟨decode_encode (i := .sRdtemp) rfl, _, respond_consume _ hs, toNat_tempResult s.sensor.temp⟩

/-- Settles O22: the read consumes, and 16 bits fit the result word. -/
theorem rdhumAnswersAndConsumes : Obligations.RdhumAnswersAndConsumes :=
  fun _ hs => ⟨decode_encode (i := .sRdhum) rfl, _, respond_consume _ hs,
    BitVec.toNat_setWidth_of_le (by decide)⟩

end Sys2Proof.Machine
end

section
/-! PROOFS. The sensor's compare channel fires alone in a tick (R164): the request ends, or the watchdog aborts. -/

namespace Sys2Proof.Machine

/-! ## The sensor decoder's units, from its state (R47) -/

theorem State.SensorInv.scap_en {s : State} (h : s.SensorInv) : s.scap.en = s.sensor.state.capturing := by
  obtain ⟨-, -, -, hen, -⟩ := h
  exact hen

theorem State.SensorInv.drv_of_capturing {s : State} (h : s.SensorInv) (hcap : s.sensor.state.capturing = true) :
    s.pin.drv = false := by
  obtain ⟨-, -, -, -, hdrv, -⟩ := h
  rw [hdrv, decide_eq_false_iff_not]
  intro hreq
  rw [hreq] at hcap
  cases hcap

/-! ## The tick -/

/-- The state in which a tick leaves the sensor's channel pending, when it reaches that channel alone (R140). -/
def State.sensorFired (s : State) : State :=
  { s with result := none, cnt := addTicks s.cfg s.cnt 1, ocS := { s.ocS with oca := false, ocf := true } }

/-- Under eager dispatch a tick that reaches the sensor's channel alone is answered by that channel's handler (R140,
R261). -/
theorem exec_evTick_of_sensorFired {s a : State} (heager : s.cfg.irqLatencyFree = false)
    (hquiet : s.highestPending = none) (hoca : s.ocS.oca = true) (hocr : s.ocS.ocr = addTicks s.cfg s.cnt 1)
    (hother : ¬(s.ocR.oca = true ∧ s.ocR.ocr = addTicks s.cfg s.cnt 1)) (ha : take .sOc s.sensorFired = .ok a) :
    exec .evTick s = .next a := by
  have hown : { countTick s with result := none } = s.sensorFired := by
    simp only [countTick, compareAt_of_match hoca hocr, compareAt_of_no_match hother, State.sensorFired]
  have hbefore := highestPending_eq_none_iff.mp hquiet
  have honly : ∀ x, s.sensorFired.pending x = true → x = .sOc := by
    intro x hx
    cases x with
    | sOc => rfl
    | sCap => exact absurd ((hbefore .sCap).symm.trans hx) Bool.false_ne_true
    | rCap => exact absurd ((hbefore .rCap).symm.trans hx) Bool.false_ne_true
    | rOc => exact absurd ((hbefore .rOc).symm.trans hx) Bool.false_ne_true
  have hfirst : s.sensorFired.highestPending = some .sOc := highestPending_of_only rfl honly
  rw [exec, execEvTick, conclude, hown,
    settle_of_one (s := s.sensorFired) heager hfirst ha (none_pending_after_take ha honly), commit]

/-- The watchdog in a capturing state, taken as an interrupt (R164, R168). -/
theorem take_sOc_of_capturing {s : State} (hcap : s.sensor.state.capturing = true) (hdrv : s.pin.drv = false) :
    take .sOc s = .ok (s.aborted .sAbortTimeout) := by
  have habort : sensorTimeout (clearPending .sOc s) = .ok (abort .timeout (clearPending .sOc s)) := by
    unfold sensorTimeout
    rw [clearPending_sOc_sensor]
    cases hst : s.sensor.state with
    | idle | requesting | ready => rw [hst] at hcap; cases hcap
    | awaitAck | ackPhase | awaitBitStart | awaitBit | bitPhase => rfl
  rw [abort_eq_aborted _ (by exact hdrv)] at habort
  exact take_of_handler habort

/-- Settles O25: with capture off, the channel's handler in Requesting is the whole step. -/
theorem requestEndsInListening : Obligations.RequestEndsInListening := by
  rintro s n hwf heager hquiet hinv rfl hst hoca hocr hother
  have hoff : s.scap.en = false := by rw [hinv.scap_en, hst]; rfl
  exact exec_evTick_of_sensorFired heager hquiet hoca hocr hother
    (take_sOc_of_requesting (s := s.sensorFired) hwf hst hoff)

theorem capturing_of_not_resting {x : SState} : x ≠ .idle → x ≠ .requesting → x ≠ .ready → x.capturing = true := by
  cases x <;> decide

/-- Settles O26: the channel's handler aborts in each capturing state, with nothing driven. -/
theorem watchdogAborts : Obligations.WatchdogAborts := by
  rintro s n heager hquiet hinv rfl hidle hreq hready hoca hocr hother
  have hcap := capturing_of_not_resting hidle hreq hready
  exact exec_evTick_of_sensorFired heager hquiet hoca hocr hother
    (take_sOc_of_capturing (s := s.sensorFired) hcap (hinv.drv_of_capturing hcap))

end Sys2Proof.Machine
end

section
/-! PROOFS. One captured sensor edge under eager dispatch (R166 to R172), and the end of a frame (R176 to R178). -/

namespace Sys2Proof.Machine

/-! ## The four states with one window -/

theorem capturing_of_phaseRow {c : Config} {x next : SState} {lo hi : Nat} (h : phaseRow c x = some (lo, hi, next)) :
    x.capturing = true := by
  cases x with
  | awaitAck | ackPhase | awaitBitStart | awaitBit => rfl
  | idle | requesting | bitPhase | ready => cases h

/-- A state with one window tests the interval against its row (R160, R167, R169 to R171). -/
theorem sensorEdge_of_phaseRow {s : State} {d lo hi : Nat} {next : SState}
    (h : phaseRow s.cfg s.sensor.state = some (lo, hi, next)) :
    sensorEdge d s = windowed (decide (lo ≤ d) && decide (d ≤ hi)) next s := by
  unfold sensorEdge
  cases hst : s.sensor.state with
  | awaitAck | ackPhase | awaitBitStart | awaitBit => rw [hst] at h; cases h; rfl
  | idle | requesting | bitPhase | ready => rw [hst] at h; cases h

/-- Settles O27: the row's window decides between `advance` and `abort`. -/
theorem phaseWindowsAdvanceOrAbort : Obligations.PhaseWindowsAdvanceOrAbort := by
  rintro s v lo hi d next hedge hinv hrow rfl
  have hcap := capturing_of_phaseRow hrow
  have hdrv : (s.withSensorEdge v).pin.drv = false := hinv.drv_of_capturing hcap
  rw [exec_evSline_of_edge hedge hcap, sensorEdge_of_phaseRow (s := s.withSensorEdge v) hrow,
    ← Bool.decide_and]
  constructor
  · intro hin
    rw [decide_eq_true hin]
    rfl
  · intro hout
    rw [decide_eq_false hout]
    exact congrArg Host.Outcome.next (abort_eq_aborted .pulseOutOfTolerance hdrv)

/-! ## The bit windows (R161, R172) -/

/-- The windows of 0 and of 1 are disjoint in a well-formed configuration, so a pulse in the window of a bit reads as
that bit (R12, R172). -/
theorem bitOfHigh_of_inWindow {c : Config} {d : Nat} {b : Bool} (hwf : c.wf = true)
    (h : if b then c.bit1Us - c.sensorTolUs ≤ d ∧ d ≤ c.bit1Us + c.sensorTolUs
      else c.bit0Us - c.sensorTolUs ≤ d ∧ d ≤ c.bit0Us + c.sensorTolUs) : bitOfHigh c d = some b := by
  cases b with
  | false => exact bitOfHigh_eq_some_false (within_iff.mpr h)
  | true =>
    obtain ⟨-, -, -, hwf4, -⟩ := wf_parts hwf
    have hgap := wf4_iff.mp hwf4
    have hlow : c.bit1Us - c.sensorTolUs ≤ d := h.1
    have hnot0 : winBit0 c d = false := by
      rw [winBit0, Bool.eq_false_iff, ne_eq, within_iff]
      omega
    exact bitOfHigh_eq_some_true hnot0 (within_iff.mpr h)

theorem bitOfHigh_of_outside {c : Config} {d : Nat}
    (h0 : ¬(c.bit0Us - c.sensorTolUs ≤ d ∧ d ≤ c.bit0Us + c.sensorTolUs))
    (h1 : ¬(c.bit1Us - c.sensorTolUs ≤ d ∧ d ≤ c.bit1Us + c.sensorTolUs)) : bitOfHigh c d = none :=
  bitOfHigh_eq_none (Bool.eq_false_iff.mpr fun h => h0 (within_iff.mp h))
    (Bool.eq_false_iff.mpr fun h => h1 (within_iff.mp h))

theorem shiftIn40_eq_or (acc : BitVec 40) (b : Bool) : shiftIn40 acc b = (acc <<< 1) ||| (if b then 1 else 0) := by
  cases b <;> rfl

theorem bitPhaseEdge_of_some {s : State} {d : Nat} {b : Bool} (h : bitOfHigh s.cfg d = some b) :
    bitPhaseEdge d s = acceptBit b s := by
  rw [bitPhaseEdge, h]

theorem bitPhaseEdge_of_none {s : State} {d : Nat} (h : bitOfHigh s.cfg d = none) :
    bitPhaseEdge d s = abort .pulseOutOfTolerance s := by
  rw [bitPhaseEdge, h]

theorem sensorEdge_of_bitPhase {s : State} (d : Nat) (h : s.sensor.state = .bitPhase) :
    sensorEdge d s = bitPhaseEdge d s := by
  rw [sensorEdge, h]

/-- An edge in BitPhase is evaluated as a bit in its step (R166, R172). -/
theorem exec_evSline_of_bitPhase {s : State} {v : Level} (hedge : s.SeesSensorEdge v)
    (hst : s.sensor.state = .bitPhase) :
    exec (.evSline v) s = .next (bitPhaseEdge (elapsed s.cfg s.cnt s.sensor.phase) (s.withSensorEdge v)) := by
  have hcap : s.sensor.state.capturing = true := by rw [hst]; rfl
  rw [exec_evSline_of_edge hedge hcap, sensorEdge_of_bitPhase (s := s.withSensorEdge v) _ hst]

theorem acceptBit_of_lt {b : Bool} {s : State} (h : s.sensor.cnt.toNat < 39) :
    acceptBit b s = setSState .awaitBit (toggleS (appendS b s)) := by
  rcases acceptBit_cases b s with ⟨hcnt, -⟩ | ⟨-, e⟩
  · bv_omega
  · exact e

theorem acceptBit_of_eq {b : Bool} {s : State} (h : s.sensor.cnt.toNat = 39) :
    acceptBit b s = finish (toggleS (appendS b s)) := by
  rcases acceptBit_cases b s with ⟨-, e⟩ | ⟨hcnt, -⟩
  · exact e
  · bv_omega

/-- Settles O28: the interval reads as the bit of its window, or as none. -/
theorem bitIsAppendedOrAborts : Obligations.BitIsAppendedOrAborts := by
  rintro s v d hwf hedge hinv hst rfl
  constructor
  · intro b hin hcnt
    rw [exec_evSline_of_bitPhase hedge hst,
      bitPhaseEdge_of_some (s := s.withSensorEdge v) (bitOfHigh_of_inWindow hwf hin),
      acceptBit_of_lt (s := s.withSensorEdge v) hcnt, ← shiftIn40_eq_or]
    rfl
  · intro hnot0 hnot1
    have hdrv : (s.withSensorEdge v).pin.drv = false := hinv.drv_of_capturing (by rw [hst]; rfl)
    rw [exec_evSline_of_bitPhase hedge hst,
      bitPhaseEdge_of_none (s := s.withSensorEdge v) (bitOfHigh_of_outside hnot0 hnot1), abort_eq_aborted _ hdrv]
    rfl

/-! ## The end of a frame (R176 to R178) -/

/-- A field of a field is a field (R73). -/
theorem extractLsb'_of_field {w i n m : Nat} (j : Nat) (x : BitVec w) (h : i + n ≤ m) :
    (x.extractLsb' j m).extractLsb' i n = x.extractLsb' (j + i) n := by
  ext k hk
  simp [show i + k < m by omega, Nat.add_assoc]

/-- R176's check, byte by byte. -/
theorem checksumOk_eq_decide (a : BitVec 40) :
    checksumOk a = decide ((a.extractLsb' 0 8).toNat = ((a.extractLsb' 32 8).toNat + (a.extractLsb' 24 8).toNat +
      (a.extractLsb' 16 8).toNat + (a.extractLsb' 8 8).toNat) % 256) := by
  have hbytes : byteSum (humField a) + byteSum (tempField a) = (a.extractLsb' 32 8).toNat +
      (a.extractLsb' 24 8).toNat + (a.extractLsb' 16 8).toNat + (a.extractLsb' 8 8).toNat := by
    simp only [byteSum, humField, tempField, extractLsb'_of_field, Nat.reduceAdd, Nat.reduceLeDiff, Nat.add_assoc]
  rw [checksumOk, hbytes]
  rfl

/-- R177 on the frame's own bits. -/
theorem decodeTemp_tempField (a : BitVec 40) : decodeTemp (tempField a) =
    if a.getLsbD 23 then -((a.extractLsb' 8 15).toNat : Int) else (a.extractLsb' 8 15).toNat := by
  have hsign : (tempField a).getLsbD 15 = a.getLsbD 23 := by simp [tempField]
  have hmagnitude : (tempField a).extractLsb' 0 15 = a.extractLsb' 8 15 :=
    extractLsb'_of_field 8 a (by decide)
  rw [decodeTemp, hsign, hmagnitude]

/-- Settles O29: the 40th bit runs `finish`, and the checksum decides how it ends. -/
theorem fortiethBitPublishesOrRejects : Obligations.FortiethBitPublishesOrRejects := by
  rintro s v b d a hwf hedge hinv hst hcnt rfl hin ha
  rw [← shiftIn40_eq_or] at ha
  subst ha
  rw [exec_evSline_of_bitPhase hedge hst,
    bitPhaseEdge_of_some (s := s.withSensorEdge v) (bitOfHigh_of_inWindow hwf hin),
    acceptBit_of_eq (s := s.withSensorEdge v) hcnt, ← decodeTemp_tempField]
  constructor
  · intro hright
    have hok : checksumOk (toggleS (appendS b (s.withSensorEdge v))).sensor.acc = true :=
      (checksumOk_eq_decide _).trans (decide_eq_true hright)
    rw [finish_of_valid hok]
    rfl
  · intro hwrong
    have hok : checksumOk (toggleS (appendS b (s.withSensorEdge v))).sensor.acc = false :=
      (checksumOk_eq_decide _).trans (decide_eq_false hwrong)
    have hdrv : (toggleS (appendS b (s.withSensorEdge v))).pin.drv = false :=
      hinv.drv_of_capturing (by rw [hst]; rfl)
    rw [finish_of_invalid hok, abort_eq_aborted _ hdrv]
    rfl

end Sys2Proof.Machine
end

section
/-! PROOFS. A whole reply of the sensor (R166, R181): the captures of its three opening phases and of its 40 bits. -/

namespace Sys2Proof.Machine

/-! ## One capture -/

/-- The state that the decoder evaluates a capture at Tick `t` in: latched, and measured from (R142, R166). -/
def State.capturedAt (s : State) (t : Nat) : State :=
  { s with scap := { s.scap with icr := t }, sensor := { s.sensor with phase := t } }

theorem sensorEdges_cons {s : State} (t : Nat) (ts : List Nat) (hcap : s.sensor.state.capturing = true) :
    sensorEdges (t :: ts) s = sensorEdges ts (sensorEdge (elapsed s.cfg t s.sensor.phase) (s.capturedAt t)) := by
  rw [sensorEdges, sensorCapture, if_pos (by exact hcap)]
  rfl

/-- A capture whose interval fits the window of its state advances the decoder (R162). -/
theorem sensorEdges_cons_of_window {s : State} {t lo hi : Nat} {next : SState} (ts : List Nat)
    (hrow : phaseRow s.cfg s.sensor.state = some (lo, hi, next))
    (hin : (decide (lo ≤ elapsed s.cfg t s.sensor.phase) && decide (elapsed s.cfg t s.sensor.phase ≤ hi)) = true) :
    sensorEdges (t :: ts) s = sensorEdges ts (advance next (s.capturedAt t)) := by
  rw [sensorEdges_cons _ _ (capturing_of_phaseRow hrow), sensorEdge_of_phaseRow (s := s.capturedAt t) hrow, hin]
  rfl

/-- A capture in BitPhase whose interval reads as a bit accepts that bit (R172). -/
theorem sensorEdges_cons_of_bit {s : State} {t : Nat} {b : Bool} (ts : List Nat) (hst : s.sensor.state = .bitPhase)
    (hbit : bitOfHigh s.cfg (elapsed s.cfg t s.sensor.phase) = some b) :
    sensorEdges (t :: ts) s = sensorEdges ts (acceptBit b (s.capturedAt t)) := by
  have hcap : s.sensor.state.capturing = true := by rw [hst]; rfl
  rw [sensorEdges_cons _ _ hcap, sensorEdge_of_bitPhase (s := s.capturedAt t) _ hst,
    bitPhaseEdge_of_some (s := s.capturedAt t) hbit]

/-! ## In the middle of a reply -/

/-- The bits of a frame come most significant first: the next one makes the accumulator one bit longer (R172). -/
theorem shiftIn40_ushiftRight (frame : BitVec 40) (k : Nat) :
    shiftIn40 (frame >>> (k + 1)) (frame.getLsbD k) = frame >>> k := by
  ext i hi
  cases i with
  | zero => simp [shiftIn40]
  | succ i => simp [shiftIn40, show k + 1 + i = k + (i + 1) by omega]

/-- In `t` the decoder is in state `x` since the edge at Tick `last` of the reply `frame` that began in `s`; the last
`k` bits of the frame are still to come, and nothing has been reported yet. -/
structure MidReply (frame : BitVec 40) (s : State) (x : SState) (last k : Nat) (t : State) : Prop where
  cfg : t.cfg = s.cfg
  state : t.sensor.state = x
  phase : t.sensor.phase = last
  acc : t.sensor.acc = frame >>> k
  cnt : t.sensor.cnt.toNat + k = 40
  undriven : t.pin.drv = false
  out : t.out = s.out
  trace : t.trace = s.trace
  hum : t.sensor.hum = s.sensor.hum
  temp : t.sensor.temp = s.sensor.temp

/-- How the reply `frame` that began in `s` ends, in `u` (R178). -/
structure ReplyEnds (frame : BitVec 40) (s u : State) : Prop where
  acc : u.sensor.acc = 0
  cnt : u.sensor.cnt = 0
  captureOff : u.scap.en = false
  disarmed : u.ocS.oca = false
  out : u.out = s.out
  published : checksumOk frame = true →
    u.sensor.state = .ready ∧ u.sensor.hum = humField frame ∧ u.sensor.temp = decodeTemp (tempField frame) ∧
      u.trace = s.trace ++ [.sReady (humField frame) (tempField frame)]
  rejected : checksumOk frame = false →
    u.sensor.state = .idle ∧ u.sensor.hum = s.sensor.hum ∧ u.sensor.temp = s.sensor.temp ∧
      u.trace = s.trace ++ [.sAbortChecksum]

namespace MidReply

variable {frame : BitVec 40} {s t : State} {x : SState} {last k : Nat}

/-- A capture inside the window of its state (R167, R169 to R171). -/
theorem window {tick lo hi : Nat} {next : SState} (ts : List Nat) (h : MidReply frame s x last k t)
    (hrow : phaseRow s.cfg x = some (lo, hi, next))
    (hin : (decide (lo ≤ elapsed s.cfg tick last) && decide (elapsed s.cfg tick last ≤ hi)) = true) :
    ∃ u, sensorEdges (tick :: ts) t = sensorEdges ts u ∧ MidReply frame s next tick k u := by
  refine ⟨_, sensorEdges_cons_of_window ts (by rw [h.cfg, h.state]; exact hrow) (by rw [h.cfg, h.phase]; exact hin), ?_⟩
  exact { h with state := rfl, phase := rfl }

/-- The next bit of the frame is appended (R172). -/
theorem append (tick : Nat) (h : MidReply frame s x last (k + 1) t) :
    MidReply frame s x tick k (toggleS (appendS (frame.getLsbD k) (t.capturedAt tick))) :=
  have hcnt := h.cnt
  { h with
    phase := rfl
    acc := show shiftIn40 t.sensor.acc _ = _ by rw [h.acc, shiftIn40_ushiftRight]
    cnt := show (t.sensor.cnt + 1).toNat + k = 40 by bv_omega }

/-- A bit that is not the last (R172). -/
theorem bit {tick : Nat} (ts : List Nat) (h : MidReply frame s .bitPhase last (k + 2) t)
    (hbit : bitOfHigh s.cfg (elapsed s.cfg tick last) = some (frame.getLsbD (k + 1))) :
    ∃ u, sensorEdges (tick :: ts) t = sensorEdges ts u ∧ MidReply frame s .awaitBit tick (k + 1) u := by
  have hcnt := h.cnt
  refine ⟨_, sensorEdges_cons_of_bit ts h.state (by rw [h.cfg, h.phase]; exact hbit), ?_⟩
  rw [acceptBit_of_lt (s := t.capturedAt tick) (show t.sensor.cnt.toNat < 39 by omega)]
  exact { h.append tick with state := rfl }

/-- With all bits in, the end of the frame ends the reply in one of its two ways (R178). -/
theorem ends (h : MidReply frame s x last 0 t) : ReplyEnds frame s (finish t) := by
  have hacc : t.sensor.acc = frame := h.acc
  cases hok : checksumOk frame with
  | true =>
    rw [finish_of_valid (hacc ▸ hok), hacc, h.trace]
    constructor
    case out => exact h.out
    case published => exact fun _ => ⟨rfl, rfl, rfl, rfl⟩
    case rejected => exact fun hwrong => absurd (hok.symm.trans hwrong) (by decide)
    all_goals rfl
  | false =>
    rw [finish_of_invalid (hacc ▸ hok), abort_eq_aborted _ h.undriven]
    constructor
    case out => exact h.out
    case published => exact fun hright => absurd (hok.symm.trans hright) (by decide)
    case rejected => exact fun _ => ⟨rfl, h.hum, h.temp, congrArg (· ++ _) h.trace⟩
    all_goals rfl

/-- The last bit (R172, R178). -/
theorem lastBit {tick : Nat} (h : MidReply frame s .bitPhase last 1 t)
    (hbit : bitOfHigh s.cfg (elapsed s.cfg tick last) = some (frame.getLsbD 0)) :
    ReplyEnds frame s (sensorEdges [tick] t) := by
  have hcnt := h.cnt
  rw [sensorEdges_cons_of_bit [] h.state (by rw [h.cfg, h.phase]; exact hbit), sensorEdges,
    acceptBit_of_eq (s := t.capturedAt tick) (show t.sensor.cnt.toNat = 39 by omega)]
  exact (h.append tick).ends

/-- The captures of the last `k + 1` bits end the reply, whatever `k` is (R172, R181). -/
theorem bits (k : Nat) {last : Nat} {t : State} {ts : List Nat} (h : MidReply frame s .awaitBit last (k + 1) t)
    (hts : SensorBits s.cfg frame (k + 1) last ts) : ReplyEnds frame s (sensorEdges ts t) := by
  induction k generalizing last t ts with
  | zero =>
    obtain ⟨r, f, rest, rfl, hlow, hhigh, rfl⟩ := hts
    obtain ⟨u, hedges, hu⟩ := h.window [f] rfl hlow
    rw [hedges]
    exact hu.lastBit hhigh
  | succ k ih =>
    obtain ⟨r, f, rest, rfl, hlow, hhigh, hrest⟩ := hts
    obtain ⟨u, hedges, hu⟩ := h.window (f :: rest) rfl hlow
    obtain ⟨v, hedges', hv⟩ := hu.bit rest hhigh
    rw [hedges, hedges']
    exact ih hv hrest

end MidReply

/-- Settles O30: three captures open the reply, and the captures of its 40 bits end it. -/
theorem sensorReplyRoundTrip : Obligations.SensorReplyRoundTrip := by
  rintro s u frame t1 t2 t3 ts hst hacc hcnt hdrv hresp hack hdstart hts rfl
  have hbegin : MidReply frame s .awaitAck s.sensor.phase 40 s :=
    { cfg := rfl, state := hst, phase := rfl, undriven := hdrv, out := rfl, trace := rfl, hum := rfl, temp := rfl
      acc := hacc.trans (BitVec.ushiftRight_eq_zero le_rfl).symm
      cnt := by rw [hcnt]; rfl }
  obtain ⟨a, hedges, ha⟩ := hbegin.window (t2 :: t3 :: ts) rfl hresp
  obtain ⟨b, hedges', hb⟩ := ha.window (t3 :: ts) rfl hack
  obtain ⟨c, hedges'', hc⟩ := hb.window ts rfl hdstart
  rw [hedges, hedges', hedges'']
  obtain ⟨hacc, hcnt, hoff, hdisarmed, hout, hpublished, hrejected⟩ := hc.bits 39 hts
  exact ⟨hacc, hcnt, hoff, hdisarmed, hout, hpublished, hrejected⟩

end Sys2Proof.Machine
end

section
/-! PROOFS. The remote decoder's host operations: control (R210 to R212) and the fields of a message (R222 to R225). -/

namespace Sys2Proof.Machine

/-! ## Control operations make nothing pending -/

/-- A frame reset discards the guard, and touches no other pending source (R205). -/
theorem frameReset_settled {s : State} (h : s.Settled) : (frameReset s).Settled := by
  refine settled_of_no_new_pending h rfl fun x hx => ?_
  cases x with
  | sCap | rCap | sOc => exact hx
  | rOc => cases hx

/-- Turning capture off discards its pending edge, and touches no other pending source (R210, R212). -/
theorem remoteOff_settled {s : State} (h : s.Settled) : (remoteOff s).Settled := by
  refine settled_of_no_new_pending h rfl fun x hx => ?_
  cases x with
  | sCap | sOc | rOc => exact hx
  | rCap => cases hx

/-- Capture is turned on with no edge pending (R211). -/
theorem remoteOn_settled {s : State} (h : s.Settled) : (remoteOn s).Settled := by
  refine settled_of_no_new_pending (frameReset_settled h) rfl fun x hx => ?_
  cases x with
  | sCap | sOc | rOc => exact hx
  | rCap => cases hx

theorem initialise_settled (p : Bool) {s : State} (h : s.Settled) : (initialise p s).Settled := by
  have hoff := remoteOff_settled h
  exact frameReset_settled
    (s := { remoteOff s with remote := { (remoteOff s).remote with inv := p, initd := true } }) hoff

/-! ## R.INIT, R.ENABLE, R.DISABLE -/

/-- Settles O32: the own effect is the decoder off, the new polarity, and a frame reset under that polarity. -/
theorem initStopsAndReadiesTheDecoder : Obligations.InitStopsAndReadiesTheDecoder := by
  intro s p hs
  refine ⟨by cases p <;> rfl, ?_⟩
  rw [exec, execRInit, respond_of_settled (initialise_settled p hs)]
  rfl

/-- Settles O33: each case of the statement is one branch of the operation. -/
theorem enableCases : Obligations.EnableCases := by
  intro s hs
  refine ⟨decode_encode (i := .rEnable) rfl, ?_, ?_, ?_, ?_⟩
  · intro hinitd
    rw [exec, execREnable, if_pos (by simp [hinitd]), respond_of_settled hs]
  · intro hinitd hen
    rw [exec, execREnable, if_neg (by simp [hinitd]), if_pos hen, respond_of_settled hs]
  · intro hinitd hen hshared hbusy
    rw [exec, execREnable, if_neg (by simp [hinitd]), if_neg (by simp [hen]), if_pos (by simp [hshared, hbusy]),
      respond_of_settled hs]
  · intro hinitd hen hfree
    rw [exec, execREnable, if_neg (by simp [hinitd]), if_neg (by simp [hen]), if_neg (by simpa using hfree),
      respond_of_settled (remoteOn_settled hs)]
    rfl

/-- Settles O34: the own effect is the decoder off and a frame reset. -/
theorem disableDiscardsTheFrame : Obligations.DisableDiscardsTheFrame := by
  intro s hs
  refine ⟨decode_encode (i := .rDisable) rfl, ?_⟩
  rw [exec, execRDisable, respond_of_settled (frameReset_settled (remoteOff_settled hs))]
  rfl

/-! ## The fields of a message (R221) -/

theorem toNat_msgToggle (m : Message) : (msgToggle m).toNat = m.toNat / 2048 % 2 := by
  simp [msgToggle, Nat.shiftRight_eq_div_pow]

theorem toNat_msgAddress (m : Message) : (msgAddress m).toNat = m.toNat / 64 % 32 := by
  simp [msgAddress, Nat.shiftRight_eq_div_pow]

theorem toNat_msgCommand (m : Message) : (msgCommand m).toNat = m.toNat % 64 := by
  simp [msgCommand]

/-- A field as a result word is its number (R96, R222 to R225). -/
theorem respond_field {n : Nat} {s : State} (x : BitVec n) (hs : s.Settled) :
    respond s s (x.setWidth 32) = .next { s with result := some (BitVec.ofNat 32 x.toNat) } := by
  rw [respond_of_settled hs, BitVec.ofNat_toNat]

/-- Settles O35: the operations have no effect of their own and their results are fields of the message. -/
theorem extractorsAnswerTheirFields : Obligations.ExtractorsAnswerTheirFields := by
  intro s m hs
  rw [← toNat_msgToggle, ← toNat_msgAddress, ← toNat_msgCommand]
  exact ⟨⟨rfl, respond_field _ hs⟩, ⟨rfl, respond_field _ hs⟩, ⟨rfl, respond_field _ hs⟩⟩

/-- The extended command is the field bit, inverted or not, above the command (R225). -/
theorem toNat_msgExtCommand (c : Config) (m : Message) : (msgExtCommand c m).toNat =
    64 * (if c.extFieldInverted then 1 - m.toNat / 4096 % 2 else m.toNat / 4096 % 2) + m.toNat % 64 := by
  have hfield : (m.getLsbD 12).toNat = m.toNat / 4096 % 2 := by rw [BitVec.getLsbD, Nat.toNat_testBit]
  rw [msgExtCommand, BitVec.toNat_append, ← Nat.shiftLeft_add_eq_or_of_lt (msgCommand m).isLt, toNat_msgCommand,
    ← hfield]
  cases c.extFieldInverted <;> cases m.getLsbD 12 <;> rfl

/-- Settles O36: the operation has no effect of its own and the extended command is its result. -/
theorem extendedCommandAnswer : Obligations.ExtendedCommandAnswer := by
  intro s m hs
  rw [← toNat_msgExtCommand]
  exact ⟨rfl, respond_field _ hs⟩

end Sys2Proof.Machine
end

section
/-! PROOFS. The remote's pulse classes (R201) and its transition table (R202). -/

namespace Sys2Proof.Machine

/-- All that a pulse class can be: the class of the first window that holds the interval (R201). -/
theorem classify_cases (c : Config) (d : Nat) :
    (within d c.halfBitUs c.remoteTolUs = true ∧ classify c d = .short) ∨
    (within d c.halfBitUs c.remoteTolUs = false ∧ within d c.fullBitUs c.remoteTolUs = true ∧
      classify c d = .long) ∨
    (within d c.halfBitUs c.remoteTolUs = false ∧ within d c.fullBitUs c.remoteTolUs = false ∧
      classify c d = .invalid) := by
  unfold classify
  cases within d c.halfBitUs c.remoteTolUs <;> cases within d c.fullBitUs c.remoteTolUs <;> simp

/-- In a well-formed configuration no interval is in both windows (R12 WF5). -/
theorem not_long_of_short {c : Config} {d : Nat} (hwf : c.wf = true) (h : within d c.halfBitUs c.remoteTolUs = true) :
    within d c.fullBitUs c.remoteTolUs = false := by
  obtain ⟨-, -, -, -, hwf5, -⟩ := wf_parts hwf
  have hgap := wf5_iff.mp hwf5
  rw [within_iff] at h
  rw [Bool.eq_false_iff, ne_eq, within_iff]
  omega

/-- Settles O39: the windows are disjoint, so the order in which they are tested does not matter. -/
theorem pulseClassesByTheirWindows : Obligations.PulseClassesByTheirWindows := by
  intro c d hwf
  simp only [← within_iff]
  rcases classify_cases c d with ⟨hhalf, e⟩ | ⟨hhalf, hfull, e⟩ | ⟨hhalf, hfull, e⟩
  · simp [e, hhalf, not_long_of_short hwf hhalf]
  · simp [e, hhalf, hfull]
  · simp [e, hhalf, hfull]

/-- Settles O40, by running the table on each of its entries. -/
theorem transitionTableEntries : Obligations.TransitionTableEntries := by
  unfold Obligations.TransitionTableEntries
  decide

end Sys2Proof.Machine
end

section
/-! PROOFS. One captured remote edge under eager dispatch (R213 to R219), and the guard (R220). -/

namespace Sys2Proof.Machine

/-! ## The capture handler, case by case (R213) -/

theorem remoteCapture_of_empty {s : State} (h : s.remote.cnt = 0) : remoteCapture s = .ok (firstEdge s) := by
  rw [remoteCapture, if_pos h]

theorem remoteCapture_of_error {s : State} (hcnt : s.remote.cnt ≠ 0) (hsub : s.remote.sub = .error) :
    remoteCapture s = errorEdge (measureR s) := by
  rw [remoteCapture, if_neg hcnt, if_pos hsub]

/-- Inside a frame the handler evaluates the interval since the phase-start. -/
theorem remoteCapture_of_frame {s : State} {d : Nat} (hcnt : s.remote.cnt ≠ 0) (hsub : s.remote.sub ≠ .error)
    (hd : elapsed s.cfg s.rcap.icr s.remote.phase = d) :
    remoteCapture s = frameEdge (classify s.cfg d) d (measureR s) := by
  rw [remoteCapture, if_neg hcnt, if_neg hsub, hd]

/-- A table entry other than Error is entered (R202). -/
theorem frameEdge_of_next {s : State} {cls : PulseClass} {d : Nat} {n : RSub} (hnext : nextSub s.remote.sub cls = n)
    (hn : n ≠ .error) : frameEdge cls d s = .ok (enterSub n s) := by
  rw [frameEdge, hnext, if_neg hn]

/-- The table entry Error enters Error, with the guard armed for the bits still expected (R204, R217). -/
theorem frameEdge_of_error {s : State} {cls : PulseClass} {d : Nat} (hnext : nextSub s.remote.sub cls = .error)
    (hguard : schedulable s.cfg (guardUs s.cfg s.remote.cnt.toNat) = true) :
    frameEdge cls d s = .ok { s with
      remote := { s.remote with sub := .error }
      ocR := .armedAt s.cfg s.cnt (usToTicks s.cfg (guardUs s.cfg s.remote.cnt.toNat))
      trace := s.trace ++ [.rErrorEnter s.remote.sub cls d s.remote.cnt] } := by
  obtain ⟨t, ht⟩ := enterError_answers (cls := cls) (d := d) hguard
  rw [frameEdge, if_pos hnext, ht, enterError_eq_ok ht]

/-! ## Sub-states entered (R203, R218) -/

/-- The sub-state of the middle of a bit (R50). -/
def RSub.mid (b : Bool) : RSub := if b then .midOne else .midZero

/-- The sub-state of the start of a bit that equals the one before it (R50). -/
def RSub.start (b : Bool) : RSub := if b then .startOne else .startZero

theorem RSub.mid_ne_error (b : Bool) : RSub.mid b ≠ .error := by cases b <;> decide

theorem RSub.start_ne_error (b : Bool) : RSub.start b ≠ .error := by cases b <;> decide

theorem shiftIn14_eq_or (acc : BitVec 14) (b : Bool) : shiftIn14 acc b = (acc <<< 1) ||| (if b then 1 else 0) := by
  cases b <;> rfl

theorem completionCheck_of_ne {s : State} (h : s.remote.cnt.toNat ≠ 14) : completionCheck s = s :=
  ((completionCheck_cases s).resolve_left fun hc => h hc.1).2

/-- A Start state appends no bit (R203). -/
theorem enterSub_start {b : Bool} {s : State} (h : s.remote.cnt.toNat ≤ 13) :
    enterSub (.start b) s = { s with remote := { s.remote with sub := .start b } } := by
  have hcheck : completionCheck { s with remote := { s.remote with sub := .start b } } =
      { s with remote := { s.remote with sub := .start b } } := completionCheck_of_ne (by simp; omega)
  cases b <;> exact hcheck

/-- A Mid state appends its bit (R203). -/
theorem enterSub_mid (b : Bool) (s : State) :
    enterSub (.mid b) s = completionCheck (appendR b { s with remote := { s.remote with sub := .mid b } }) := by
  cases b <;> rfl

theorem enterSub_mid_of_lt {b : Bool} {s : State} (h : s.remote.cnt.toNat < 13) :
    enterSub (.mid b) s = appendR b { s with remote := { s.remote with sub := .mid b } } := by
  rw [enterSub_mid, completionCheck_of_ne (by simp only [appendR_remote]; bv_omega)]

theorem enterSub_mid_of_eq {b : Bool} {s : State} (h : s.remote.cnt.toNat = 13) :
    enterSub (.mid b) s = completeR (appendR b { s with remote := { s.remote with sub := .mid b } }) := by
  have h14 : (s.remote.cnt + 1).toNat = 14 := by bv_omega
  rw [enterSub_mid, completionCheck, if_pos (by exact h14)]

/-- A capture inside a frame whose table entry is not Error enters that entry's sub-state (R213). -/
theorem remoteCapture_of_next {s : State} {n : RSub} (hcnt : s.remote.cnt ≠ 0) (hsub : s.remote.sub ≠ .error)
    (hnext : nextSub s.remote.sub (classify s.cfg (elapsed s.cfg s.rcap.icr s.remote.phase)) = n) (hn : n ≠ .error) :
    remoteCapture s = .ok (enterSub n (measureR s)) := by
  rw [remoteCapture_of_frame hcnt hsub rfl]
  exact frameEdge_of_next hnext hn

/-! ## The edge -/

/-- The state in which the remote's handler finds an edge that has been latched and taken (R143, R263). -/
def State.remoteLatched (s : State) (v : Level) : State :=
  { s with result := none, rLine := v, rcap := { s.rcap with icr := s.cnt } }

/-- Under eager dispatch the handler's answer to an armed edge is the whole step (R143, R261). -/
theorem exec_evRline_of_remoteCapture {s u : State} {v : Level} (h : s.SeesRemoteEdge v)
    (hu : remoteCapture (s.remoteLatched v) = .ok u) : exec (.evRline v) s = .next u := by
  have hedge := h
  obtain ⟨-, hquiet, hen, -⟩ := hedge
  have hpf : s.rcap.pf = false := by simpa [hen] using highestPending_eq_none_iff.mp hquiet .rCap
  refine exec_evRline_of_edge h ?_
  rw [← hpf]
  exact hu

/-- An edge inside a frame whose table entry is not Error enters that entry's sub-state (R213). -/
theorem exec_evRline_of_next {s : State} {v : Level} {n : RSub} (h : s.SeesRemoteEdge v)
    (hcnt : s.remote.cnt ≠ 0) (hsub : s.remote.sub ≠ .error)
    (hnext : nextSub s.remote.sub (classify s.cfg (elapsed s.cfg s.cnt s.remote.phase)) = n) (hn : n ≠ .error) :
    exec (.evRline v) s = .next (enterSub n (s.withRemoteEdge v)) :=
  exec_evRline_of_remoteCapture h (remoteCapture_of_next (s := s.remoteLatched v) hcnt hsub hnext hn)

theorem remote_cnt_ne_zero {s : State} (h : 1 ≤ s.remote.cnt.toNat) : s.remote.cnt ≠ 0 := by bv_omega

/-- An edge to the start of a bit moves the sub-state (R213, R216). -/
theorem exec_evRline_of_start {s : State} {v : Level} {b : Bool} (h : s.SeesRemoteEdge v)
    (hpos : 1 ≤ s.remote.cnt.toNat) (hle : s.remote.cnt.toNat ≤ 13) (hsub : s.remote.sub ≠ .error)
    (hnext : nextSub s.remote.sub (classify s.cfg (elapsed s.cfg s.cnt s.remote.phase)) = .start b) :
    exec (.evRline v) s = .next { s.withRemoteEdge v with
      remote := { (s.withRemoteEdge v).remote with sub := .start b } } := by
  rw [exec_evRline_of_next h (remote_cnt_ne_zero hpos) hsub hnext (RSub.start_ne_error b),
    enterSub_start (s := s.withRemoteEdge v) hle]

/-- An edge to the middle of a bit before the 14th appends that bit (R203, R213, R216). -/
theorem exec_evRline_of_mid {s : State} {v b : Bool} (h : s.SeesRemoteEdge v)
    (hpos : 1 ≤ s.remote.cnt.toNat) (hlt : s.remote.cnt.toNat < 13) (hsub : s.remote.sub ≠ .error)
    (hnext : nextSub s.remote.sub (classify s.cfg (elapsed s.cfg s.cnt s.remote.phase)) = .mid b) :
    exec (.evRline v) s = .next { s.withRemoteEdge v with
      remote := { (s.withRemoteEdge v).remote with
        sub := .mid b, acc := shiftIn14 s.remote.acc b, cnt := s.remote.cnt + 1 } } := by
  rw [exec_evRline_of_next h (remote_cnt_ne_zero hpos) hsub hnext (RSub.mid_ne_error b),
    enterSub_mid_of_lt (s := s.withRemoteEdge v) hlt]
  rfl

/-- Settles O41: with no bit received the handler runs `firstEdge`. -/
theorem firstEdgeSeedsMidOne : Obligations.FirstEdgeSeedsMidOne := by
  intro s v hedge hcnt
  exact exec_evRline_of_remoteCapture hedge (remoteCapture_of_empty hcnt)

/-- Settles O42: a Start entry only moves the sub-state, and a Mid entry appends its bit, which is not the 14th. -/
theorem frameEdgeFollowsTheTable : Obligations.FrameEdgeFollowsTheTable := by
  rintro s v n hedge hpos hle hsub hn
  refine ⟨?_, ?_, ?_⟩
  · rintro (rfl | rfl)
    · exact exec_evRline_of_start (b := false) hedge hpos hle hsub hn.symm
    · exact exec_evRline_of_start (b := true) hedge hpos hle hsub hn.symm
  · rintro rfl hlt
    have happend : shiftIn14 s.remote.acc false = s.remote.acc <<< 1 := BitVec.or_zero
    rw [← happend]
    exact exec_evRline_of_mid (b := false) hedge hpos hlt hsub hn.symm
  · rintro rfl hlt
    exact exec_evRline_of_mid (b := true) hedge hpos hlt hsub hn.symm

/-- Settles O43: the 14th bit runs `completeR`, which emits the message and resets the frame. -/
theorem fourteenthBitEmitsTheMessage : Obligations.FourteenthBitEmitsTheMessage := by
  rintro s v b m hedge hcnt hsub hnext rfl
  rw [exec_evRline_of_next hedge (remote_cnt_ne_zero (by omega)) hsub hnext (RSub.mid_ne_error b),
    ← shiftIn14_eq_or]
  exact congrArg Host.Outcome.next (enterSub_mid_of_eq (b := b) (s := s.withRemoteEdge v) hcnt)

/-- Settles O44: the guard of a frame of 1 to 13 bits can be armed. -/
theorem badIntervalEntersError : Obligations.BadIntervalEntersError := by
  rintro s v d hwf hedge hpos hle hsub hd hnext
  apply exec_evRline_of_remoteCapture hedge
  rw [remoteCapture_of_frame (s := s.remoteLatched v) (remote_cnt_ne_zero hpos) hsub hd.symm]
  exact frameEdge_of_error hnext (wf_guard hwf hpos hle)

/-- Settles O45: the guard of a frame of 1 to 13 bits can be armed again. -/
theorem edgeInErrorRestartsTheGuard : Obligations.EdgeInErrorRestartsTheGuard := by
  rintro s v hwf hedge hpos hle hsub
  apply exec_evRline_of_remoteCapture hedge
  rw [remoteCapture_of_error (s := s.remoteLatched v) (remote_cnt_ne_zero hpos) hsub]
  exact arm_of_schedulable (wf_guard hwf hpos hle)

/-! ## The guard (R220) -/

/-- Under eager dispatch a tick that makes one source pending is answered by that source's handler (R140, R261). -/
theorem exec_evTick_of_only {s a : State} {src : Source} (heager : s.cfg.irqLatencyFree = false)
    (hp : (countTick s).pending src = true) (honly : ∀ x, (countTick s).pending x = true → x = src)
    (ha : take src { countTick s with result := none } = .ok a) : exec .evTick s = .next a := by
  have hfirst : ({ countTick s with result := none } : State).highestPending = some src :=
    highestPending_of_only (by cases src <;> exact hp) fun x hx => honly x (by cases x <;> exact hx)
  have hlast : a.highestPending = none := none_pending_after_take ha fun x hx => honly x (by cases x <;> exact hx)
  rw [exec, execEvTick, conclude, settle_of_one (by exact heager) hfirst ha hlast, commit]

/-- With the remote's channel alone reached by a tick from a quiet state, it is the only pending source (R140). -/
theorem pending_countTick_of_remote {s : State} (hquiet : s.highestPending = none)
    (hother : ¬(s.ocS.oca = true ∧ s.ocS.ocr = addTicks s.cfg s.cnt 1)) (x : Source)
    (hx : (countTick s).pending x = true) : x = .rOc := by
  have hbefore := highestPending_eq_none_iff.mp hquiet x
  have hsame : (countTick s).ocS = s.ocS := compareAt_of_no_match hother
  cases x with
  | rOc => rfl
  | sCap | rCap => exact absurd (hbefore.symm.trans hx) Bool.false_ne_true
  | sOc =>
    rw [pending_sOc, hsame] at hx
    exact absurd (hbefore.symm.trans hx) Bool.false_ne_true

/-- The guard in Error, taken as an interrupt (R220, R263). -/
theorem take_rOc_of_error {s : State} (hsub : s.remote.sub = .error) :
    take .rOc s = .ok { s.frameCleared with trace := s.trace ++ [.rGuardReset] } := by
  apply take_of_handler
  exact if_pos hsub

/-- Settles O46: the remote's channel fires alone, and its handler in Error resets the frame. -/
theorem guardResetsTheFrame : Obligations.GuardResetsTheFrame := by
  rintro s n heager hquiet rfl hsub hoca hocr hother
  have hfired : (countTick s).ocR = { s.ocR with oca := false, ocf := true } := compareAt_of_match hoca hocr
  have hsame : (countTick s).ocS = s.ocS := compareAt_of_no_match hother
  rw [exec_evTick_of_only heager (by rw [pending_rOc, hfired]) (pending_countTick_of_remote hquiet hother)
    (take_rOc_of_error (s := { countTick s with result := none }) hsub)]
  simp only [State.frameCleared, hfired, hsame]
  rfl

end Sys2Proof.Machine
end

section
/-! PROOFS. A whole frame of the remote (R213 to R219, R227): the capture of its first edge and those of its 13 bits. -/

namespace Sys2Proof.Machine

/-! ## One capture -/

/-- The state that the decoder evaluates a capture at Tick `t` in, inside a frame: latched, measured from, and armed for
the other edge (R143, R213, R216). -/
def State.remoteCapturedAt (s : State) (t : Nat) : State := measureR { s with rcap := { s.rcap with icr := t } }

theorem remoteEdges_cons {s u : State} {t : Nat} (ts : List Nat)
    (h : remoteCapture { s with rcap := { s.rcap with icr := t } } = .ok u) :
    remoteEdges (t :: ts) s = remoteEdges ts u := by
  rw [remoteEdges, h]

/-! ## The table by the bits (R202) -/

theorem nextSub_mid_short (b : Bool) : nextSub (.mid b) .short = .start b := by cases b <;> rfl

theorem nextSub_start_short (b : Bool) : nextSub (.start b) .short = .mid b := by cases b <;> rfl

theorem nextSub_mid_long (b : Bool) : nextSub (.mid b) .long = .mid (!b) := by cases b <;> rfl

/-! ## In the middle of a frame -/

/-- The bits of a message come most significant first: the next one makes the bit buffer one bit longer (R203). -/
theorem shiftIn14_ushiftRight (m : Message) (k : Nat) :
    shiftIn14 (m >>> (k + 1)) (m.getLsbD k) = m >>> k := by
  ext i hi
  cases i with
  | zero => simp [shiftIn14]
  | succ i => simp [shiftIn14, show k + 1 + i = k + (i + 1) by omega]

/-- In `t` the decoder is in sub-state `x` since the edge at Tick `last` of the frame `m` that began in `s`; the last
`k` bits of the message are still to come, not all of them, and nothing has been emitted yet. -/
structure MidFrame (m : Message) (s : State) (x : RSub) (last k : Nat) (t : State) : Prop where
  cfg : t.cfg = s.cfg
  sub : t.remote.sub = x
  phase : t.remote.phase = last
  acc : t.remote.acc = m >>> k
  cnt : t.remote.cnt.toNat + k = 14
  inv : t.remote.inv = s.remote.inv
  out : t.out = s.out
  trace : t.trace = s.trace
  enabled : t.rcap.en = s.rcap.en
  sensor : t.sensor = s.sensor

/-- How the frame `m` that began in `s` ends, in `u` (R219). -/
structure FrameEnds (m : Message) (s u : State) : Prop where
  out : u.out = s.out ++ [.msg m]
  trace : u.trace = s.trace ++ [.rMsg m]
  cnt : u.remote.cnt = 0
  acc : u.remote.acc = 0
  sub : u.remote.sub = .midOne
  pol : u.rcap.pol = frameStartPolarity s.remote.inv
  enabled : u.rcap.en = s.rcap.en
  sensor : u.sensor = s.sensor

namespace MidFrame

variable {m : Message} {s t : State} {x : RSub} {last k : Nat}

/-- The first edge of the frame (R214). -/
theorem begins (tick : Nat) (hlead : m.getLsbD 13 = true) :
    MidFrame m s (.mid true) tick 13 (firstEdge { s with rcap := { s.rcap with icr := tick } }) :=
  { cfg := rfl, sub := rfl, phase := rfl, cnt := rfl, inv := rfl, out := rfl, trace := rfl, enabled := rfl
    sensor := rfl
    acc := by
      have hnone : m >>> 14 = 0#14 := BitVec.ushiftRight_eq_zero le_rfl
      rw [← shiftIn14_ushiftRight, hnone, hlead]
      rfl }

theorem captured (tick : Nat) (h : MidFrame m s x last k t) : MidFrame m s x tick k (t.remoteCapturedAt tick) :=
  { h with phase := rfl }

/-- A capture inside the frame enters the table's entry, if that is not Error (R213). -/
theorem edge {tick : Nat} {n : RSub} (ts : List Nat) (h : MidFrame m s x last k t) (hk : k ≤ 13)
    (hnext : nextSub x (classify s.cfg (elapsed s.cfg tick last)) = n) (hx : x ≠ .error) (hn : n ≠ .error) :
    remoteEdges (tick :: ts) t = remoteEdges ts (enterSub n (t.remoteCapturedAt tick)) := by
  have hcnt := h.cnt
  refine remoteEdges_cons ts (remoteCapture_of_next (remote_cnt_ne_zero ?_) (h.sub ▸ hx) ?_ hn)
  · show 1 ≤ t.remote.cnt.toNat
    omega
  · simpa only [h.cfg, h.sub, h.phase] using hnext

/-- A short interval after the middle of a bit: the next bit equals it and has its start there (R202). -/
theorem start {tick : Nat} {b : Bool} (ts : List Nat) (h : MidFrame m s (.mid b) last (k + 1) t) (hk : k ≤ 12)
    (hshort : classify s.cfg (elapsed s.cfg tick last) = .short) :
    ∃ u, remoteEdges (tick :: ts) t = remoteEdges ts u ∧ MidFrame m s (.start b) tick (k + 1) u := by
  have hcnt := h.cnt
  refine ⟨_, h.edge ts (by omega) (hshort ▸ nextSub_mid_short b) (RSub.mid_ne_error b) (RSub.start_ne_error b), ?_⟩
  rw [enterSub_start (s := t.remoteCapturedAt tick) (show t.remote.cnt.toNat ≤ 13 by omega)]
  exact { h.captured tick with sub := rfl }

/-- After the middle of the bit `prev` the next captures enter the middle of the next bit: over its start when it equals
`prev`, at once when it does not (R202, R227). -/
theorem nextMid {prev : Bool} {ts : List Nat} (h : MidFrame m s (.mid prev) last (k + 1) t) (hk : k ≤ 12)
    (hts : BiphaseBits s.cfg m (k + 1) prev last ts) :
    ∃ y tick rest u, remoteEdges ts t = remoteEdges rest (enterSub (.mid (m.getLsbD k)) u) ∧
      MidFrame m s y tick (k + 1) u ∧ BiphaseBits s.cfg m k (m.getLsbD k) tick rest := by
  rcases hts with ⟨hsame, e, f, rest, rfl, hfirst, hsecond, hrest⟩ | ⟨hother, f, rest, rfl, hlong, hrest⟩
  · obtain ⟨u, hedges, hu⟩ := h.start (f :: rest) hk hfirst
    have hnext : nextSub (.start prev) (classify s.cfg (elapsed s.cfg f e)) = .mid (m.getLsbD k) := by
      rw [hsecond, hsame, nextSub_start_short]
    refine ⟨_, f, rest, u.remoteCapturedAt f, ?_, hu.captured f, hrest⟩
    rw [hedges, hu.edge rest (by omega) hnext (RSub.start_ne_error _) (RSub.mid_ne_error _)]
  · have hnext : nextSub (.mid prev) (classify s.cfg (elapsed s.cfg f last)) = .mid (m.getLsbD k) := by
      rw [hlong, Bool.eq_not_of_ne hother, nextSub_mid_long]
    exact ⟨_, f, rest, t.remoteCapturedAt f,
      h.edge rest (by omega) hnext (RSub.mid_ne_error _) (RSub.mid_ne_error _), h.captured f, hrest⟩

/-- The next bit of the message is appended in its middle (R203). -/
theorem appended (h : MidFrame m s x last (k + 1) t) (hk : k ≤ 12) :
    MidFrame m s (.mid (m.getLsbD k)) last k
      (appendR (m.getLsbD k) { t with remote := { t.remote with sub := .mid (m.getLsbD k) } }) :=
  have hcnt := h.cnt
  { h with
    sub := rfl
    acc := show shiftIn14 t.remote.acc _ = _ by rw [h.acc, shiftIn14_ushiftRight]
    cnt := show (t.remote.cnt + 1).toNat + k = 14 by bv_omega }

/-- With all bits in, the message is emitted and the frame reset (R219). -/
theorem ends (h : MidFrame m s x last 0 t) : FrameEnds m s (completeR t) := by
  have hacc : t.remote.acc = m := h.acc
  rw [completeR_eq, hacc, h.out, h.trace, h.inv]
  exact { out := rfl, trace := rfl, cnt := rfl, acc := rfl, sub := rfl, pol := rfl
          enabled := h.enabled, sensor := h.sensor }

/-- The captures of the last `k + 1` bits end the frame, whatever `k` is (R202, R218, R227). -/
theorem bits (k : Nat) {prev : Bool} {last : Nat} {t : State} {ts : List Nat} (hk : k ≤ 12)
    (h : MidFrame m s (.mid prev) last (k + 1) t) (hts : BiphaseBits s.cfg m (k + 1) prev last ts) :
    ∃ u, remoteEdges ts t = .ok u ∧ FrameEnds m s u := by
  obtain ⟨y, tick, rest, u, hedges, hu, hrest⟩ := h.nextMid hk hts
  have hcnt := hu.cnt
  rw [hedges]
  cases k with
  | zero =>
    obtain rfl : rest = [] := hrest
    rw [enterSub_mid_of_eq (by omega)]
    exact ⟨_, rfl, (hu.appended hk).ends⟩
  | succ k =>
    rw [enterSub_mid_of_lt (by omega)]
    exact bits k (by omega) (hu.appended hk) hrest

end MidFrame

/-- Settles O47: the first capture begins the frame, and the captures of its other 13 bits end it. -/
theorem remoteFrameRoundTrip : Obligations.RemoteFrameRoundTrip := by
  intro s m t ts hcnt hlead hts
  rw [remoteEdges_cons ts (remoteCapture_of_empty (by exact hcnt))]
  obtain ⟨u, hedges, hout, htrace, hcnt, hacc, hsub, hpol, hen, hsensor⟩ := (MidFrame.begins t hlead).bits 12 le_rfl hts
  exact ⟨u, hedges, hout, htrace, hcnt, hacc, hsub, hpol, hen, hsensor⟩

end Sys2Proof.Machine
end

section
/-! PROOFS. When a message leaves the block (R217, R218, R221). -/

namespace Sys2Proof.Machine

/-! ## The messages of OUT -/

/-- The message of an output event, if it is one (R58). -/
def OutEvent.toMessage : OutEvent → Option Message
  | .msg m => some m
  | .sdrive _ => none

/-- The messages of an output sequence, oldest first. -/
def messagesOf (xs : List OutEvent) : List Message := xs.filterMap OutEvent.toMessage

theorem messagesOf_append (xs ys : List OutEvent) : messagesOf (xs ++ ys) = messagesOf xs ++ messagesOf ys :=
  List.filterMap_append

theorem count_msg_eq (m : Message) (xs : List OutEvent) : xs.count (.msg m) = (messagesOf xs).count m := by
  rw [messagesOf, List.count_filterMap]
  exact List.countP_congr fun e _ => by cases e <;> simp [OutEvent.toMessage]

theorem messagesOf_append_sdrive (xs : List OutEvent) (v : Bool) :
    messagesOf (xs ++ [.sdrive v]) = messagesOf xs := by
  rw [messagesOf_append]
  exact List.append_nil _

/-- `t` has emitted the messages that `s` has emitted. -/
def SameMessages (s t : State) : Prop := messagesOf t.out = messagesOf s.out

theorem SameMessages.of_out {s t : State} (h : t.out = s.out) : SameMessages s t := congrArg messagesOf h

theorem SameMessages.trans {s t u : State} (h : SameMessages s t) (k : SameMessages t u) : SameMessages s u :=
  Eq.trans k h

/-! ## The sensor's side emits none -/

theorem latchS_out (e : Polarity) (s : State) : (latchS e s).out = s.out := by
  unfold latchS
  split <;> rfl

theorem lineUpdateS_out (s : State) : (lineUpdateS s).out = s.out := by
  rcases lineUpdateS_cases s with ⟨_, e⟩ | ⟨_, e⟩ <;> rw [e]
  exact latchS_out _ _

theorem driveS_sameMessages (v : Bool) (s : State) : SameMessages s (driveS v s) :=
  (congrArg messagesOf (lineUpdateS_out _)).trans (messagesOf_append_sdrive s.out v)

theorem abort_sameMessages (c : Cause) (s : State) : SameMessages s (abort c s) := by
  rw [abort_eq]
  cases hdrv : s.pin.drv
  · exact .of_out (by simp)
  · exact messagesOf_append_sdrive s.out false

theorem finish_sameMessages (s : State) : SameMessages s (finish s) := by
  cases hok : checksumOk s.sensor.acc with
  | false => rw [finish_of_invalid hok]; exact abort_sameMessages _ s
  | true => rw [finish_of_valid hok]; exact .of_out rfl

theorem sensorCapture_sameMessages (s : State) : SameMessages s (sensorCapture s) := by
  rcases sensorCapture_cases s with ⟨_, e⟩ | ⟨_, _, e⟩ | ⟨_, e⟩ | ⟨_, b, _, e⟩ <;> rw [e]
  · exact .of_out rfl
  · exact .of_out rfl
  · exact abort_sameMessages _ { s with sensor := { s.sensor with phase := s.scap.icr } }
  · rcases acceptBit_cases b { s with sensor := { s.sensor with phase := s.scap.icr } } with ⟨_, e⟩ | ⟨_, e⟩ <;> rw [e]
    · exact finish_sameMessages _
    · exact .of_out rfl

theorem sensorTimeout_sameMessages {s t : State} (h : sensorTimeout s = .ok t) : SameMessages s t := by
  rcases sensorTimeout_cases h with ⟨_, harm⟩ | ⟨_, rfl⟩ | ⟨_, rfl⟩
  · rw [arm_eq_ok harm]
    exact driveS_sameMessages false s
  · exact abort_sameMessages _ s
  · exact .of_out rfl

/-! ## The remote's handlers -/

/-- `t` has just emitted the message that one more bit completes in `s`, outside Error, and holds no bits (R218,
R219). -/
def EmitsMessage (s t : State) : Prop :=
  s.remote.cnt.toNat = 13 ∧ s.remote.sub ≠ .error ∧ t.remote.cnt = 0 ∧
  ∃ b, messagesOf t.out = messagesOf s.out ++ [shiftIn14 s.remote.acc b]

theorem EmitsMessage.empty {s t : State} (h : EmitsMessage s t) : t.remote.cnt = 0 := by
  obtain ⟨-, -, hcnt, -⟩ := h
  exact hcnt

/-- A message of a decoder that was as in `s`, emitted after the messages of `s`. -/
theorem EmitsMessage.congr {s u t : State} (h : EmitsMessage u t) (hremote : u.remote = s.remote)
    (hsofar : SameMessages s u) : EmitsMessage s t := by
  rw [EmitsMessage, hremote, hsofar] at h
  exact h

/-- What follows an emitted message, emits none and begins no frame. -/
theorem EmitsMessage.followed {s t u : State} (h : EmitsMessage s t) (hnone : SameMessages t u)
    (hcnt : u.remote.cnt = 0) : EmitsMessage s u := by
  obtain ⟨h13, hsub, -, b, hemitted⟩ := h
  exact ⟨h13, hsub, hcnt, b, Eq.trans hnone hemitted⟩

/-- A bit appended by an edge inside a frame completes the message or emits none (R203, R218). -/
theorem enterSub_mid_messages (b : Bool) {s : State} (hsub : s.remote.sub ≠ .error) :
    SameMessages s (enterSub (.mid b) (measureR s)) ∨ EmitsMessage s (enterSub (.mid b) (measureR s)) := by
  rw [enterSub_mid]
  rcases completionCheck_cases (appendR b { measureR s with remote := { (measureR s).remote with sub := .mid b } }) with
    ⟨hcnt, e⟩ | ⟨_, e⟩ <;> rw [e]
  · have h14 : (s.remote.cnt + 1).toNat = 14 := hcnt
    exact .inr ⟨by bv_omega, hsub, rfl, b, messagesOf_append _ _⟩
  · exact .inl (.of_out rfl)

/-- The start of a bit completes no message (R203). -/
theorem enterSub_start_messages (b : Bool) {s : State} (hcount : s.remote.cnt.toNat ≤ 13) :
    SameMessages s (enterSub (.start b) (measureR s)) := by
  rw [enterSub_start (s := measureR s) hcount]
  exact .of_out rfl

/-- The one place that emits a message: the 14th bit of a frame outside Error (R213, R218). -/
theorem remoteCapture_messages {s t : State} (hcount : s.remote.cnt.toNat ≤ 13) (h : remoteCapture s = .ok t) :
    SameMessages s t ∨ EmitsMessage s t := by
  rcases remoteCapture_cases h with ⟨_, rfl⟩ | ⟨_, _, harm⟩ | ⟨_, _, _, he⟩ | ⟨_, hsub, hnext, rfl⟩
  · exact .inl (.of_out rfl)
  · rw [arm_eq_ok harm]
    exact .inl (.of_out rfl)
  · rw [enterError_eq_ok he]
    exact .inl (.of_out rfl)
  · generalize nextSub s.remote.sub _ = n at hnext
    cases n with
    | midZero => exact enterSub_mid_messages false hsub
    | midOne => exact enterSub_mid_messages true hsub
    | startZero => exact .inl (enterSub_start_messages false hcount)
    | startOne => exact .inl (enterSub_start_messages true hcount)
    | error => exact absurd rfl hnext

theorem remoteTimeout_sameMessages {s t : State} (h : remoteTimeout s = .ok t) : SameMessages s t := by
  rcases remoteTimeout_cases h with ⟨_, rfl⟩ | ⟨_, rfl⟩ <;> exact .of_out rfl

/-- Of the handlers only the remote's capture handler emits a message. -/
theorem take_sameMessages {src : Source} {s t : State} (hsrc : src ≠ .rCap) (h : take src s = .ok t) :
    SameMessages s t := by
  rcases take_cases h with ⟨rfl, rfl⟩ | ⟨rfl, _⟩ | ⟨rfl, hh⟩ | ⟨rfl, hh⟩
  · exact .trans (t := clearPending .sCap s) (.of_out rfl) (sensorCapture_sameMessages _)
  · exact absurd rfl hsrc
  · exact .trans (t := clearPending .sOc s) (.of_out rfl) (sensorTimeout_sameMessages hh)
  · exact .trans (t := clearPending .rOc s) (.of_out rfl) (remoteTimeout_sameMessages hh)

theorem take_rCap_messages {s t : State} (hcount : s.remote.cnt.toNat ≤ 13) (h : take .rCap s = .ok t) :
    SameMessages s t ∨ EmitsMessage s t :=
  remoteCapture_messages (s := clearPending .rCap s) hcount (handler_of_take h)

/-- A handler leaves the remote decoder as it is, or no capture of the remote is pending after it (R86, R263, R264). -/
theorem take_remote {src : Source} {s t : State} (hp : s.highestPending = some src) (h : take src s = .ok t) :
    t.remote = s.remote ∨ t.pending .rCap = false := by
  cases src with
  | sCap => exact .inl (take_sensorSide h (.inl rfl)).remote
  | rCap => exact .inr (not_pending_after_take h (.inr rfl))
  | sOc => exact .inl (take_sensorSide h (.inr rfl)).remote
  | rOc => exact .inr (not_pending_after_take h (.inl (rCap_not_pending_of_rOc hp)))

/-- Without a capture of its own, no handler begins a frame of the remote (R214, R220). -/
theorem take_keeps_empty {src : Source} {s t : State} (hcnt : s.remote.cnt = 0) (hsrc : src ≠ .rCap)
    (h : take src s = .ok t) : t.remote.cnt = 0 := by
  rcases take_cases h with ⟨rfl, _⟩ | ⟨rfl, _⟩ | ⟨rfl, _⟩ | ⟨rfl, hh⟩
  · rw [(take_sensorSide h (.inl rfl)).remote, hcnt]
  · exact absurd rfl hsrc
  · rw [(take_sensorSide h (.inr rfl)).remote, hcnt]
  · rcases remoteTimeout_cases hh with ⟨_, rfl⟩ | ⟨_, rfl⟩
    · rfl
    · exact hcnt

/-! ## Steps -/

/-- What an operation's own effect leaves of the remote decoder: all of it, or no capture pending. It emits no
message. -/
theorem body_messages {s b : State} (h : Body s b) :
    SameMessages s b ∧ (b.remote = s.remote ∨ b.pending .rCap = false) := by
  cases h with
  | nothing | tick => exact ⟨.of_out rfl, .inl rfl⟩
  | start _ harm =>
    rw [arm_eq_ok harm, beginRequest_eq]
    exact ⟨messagesOf_append_sdrive s.out true, .inl rfl⟩
  | consume =>
    rw [consume_eq]
    exact ⟨.of_out rfl, .inl rfl⟩
  | initialise | enable | disable => exact ⟨.of_out rfl, .inr rfl⟩
  | sline v => exact ⟨.of_out (lineUpdateS_out _), .inl (presentS_side v s).remote⟩
  | rline v => rcases presentR_cases v s with ⟨_, e⟩ | ⟨_, _, _, _, e⟩ <;> rw [e] <;> exact ⟨.of_out rfl, .inl rfl⟩

/-- Within a step from `s`: no message has been emitted, and either the remote decoder is still as in `s` or no capture
can complete a message any more; or the message of `s` has been emitted, and no other can follow. -/
def MessageWithin (s u : State) : Prop :=
  (SameMessages s u ∧ (u.remote = s.remote ∨ u.pending .rCap = false)) ∨
    (EmitsMessage s u ∧ u.pending .rCap = false)

/-- Every handler keeps `MessageWithin`: the remote's capture is taken at most once, from the decoder of `s`. -/
theorem take_messageWithin {s : State} (hcount : s.remote.cnt.toNat ≤ 13) (src : Source) (u v : State)
    (hu : MessageWithin s u) (hp : u.highestPending = some src) (ht : take src u = .ok v) : MessageWithin s v := by
  rcases eq_or_ne src .rCap with rfl | hsrc
  · have hserved : v.pending .rCap = false := not_pending_after_take ht (.inr rfl)
    have hwaiting : u.pending .rCap ≠ false := by simp [pending_of_highestPending hp]
    rcases hu with ⟨hsofar, hsame | hquiet⟩ | ⟨-, hquiet⟩
    · rcases take_rCap_messages (hsame ▸ hcount) ht with hnone | hemits
      · exact .inl ⟨hsofar.trans hnone, .inr hserved⟩
      · exact .inr ⟨hemits.congr hsame hsofar, hserved⟩
    · exact absurd hquiet hwaiting
    · exact absurd hquiet hwaiting
  · have hnone := take_sameMessages hsrc ht
    have hstays (hquiet : u.pending .rCap = false) : v.pending .rCap = false := not_pending_after_take ht (.inl hquiet)
    rcases hu with ⟨hsofar, hsame | hquiet⟩ | ⟨hemits, hquiet⟩
    · exact .inl ⟨hsofar.trans hnone, (take_remote hp ht).imp_left (·.trans hsame)⟩
    · exact .inl ⟨hsofar.trans hnone, .inr (hstays hquiet)⟩
    · exact .inr ⟨hemits.followed hnone (take_keeps_empty hemits.empty hsrc ht), hstays hquiet⟩

/-- Within every step but a reset no message is emitted, or the one that the step's beginning lacks one bit of. -/
theorem step_messageWithin {s t : State} (hcount : s.remote.cnt.toNat ≤ 13) (h : step s = .next t)
    (hn : s.NoResetNext) : MessageWithin s t := by
  refine step_reaches h ?_ ?_ ?_ (take_messageWithin hcount)
  · exact fun _ _ _ => .inl ⟨.of_out rfl, .inl rfl⟩
  · exact fun _ hin => absurd hin (input_ne_reset_of_noResetNext hn)
  · intro i r b hb
    obtain ⟨hnone, hrest⟩ := body_messages hb
    exact .inl ⟨hnone, hrest⟩

/-- The leading 1 of a frame becomes bit 13 of its message (R214, R221). -/
theorem getLsbD_thirteen_shiftIn14 {acc : BitVec 14} (b : Bool) (hlow : 2 ^ 12 ≤ acc.toNat)
    (hhigh : acc.toNat < 2 ^ 13) : (shiftIn14 acc b).getLsbD 13 = true := by
  obtain ⟨hlead, -⟩ := shiftIn14_bounds b (n := 13) (by decide) le_rfl hlow hhigh
  calc (shiftIn14 acc b).getLsbD 13 = (shiftIn14 acc b).msb := rfl
    _ = decide (2 ^ 13 ≤ (shiftIn14 acc b).toNat) := BitVec.msb_eq_decide _
    _ = true := decide_eq_true hlead

/-- Settles O59: the step's messages are the old ones, or those and the one just completed. -/
theorem messageOnlyFromFourteenBits : Obligations.MessageOnlyFromFourteenBits := by
  intro s t m hinv hstep hn hmore
  obtain ⟨-, hremote, -⟩ := inv_iff.mp hinv
  rw [count_msg_eq, count_msg_eq] at hmore ⊢
  rcases step_messageWithin hremote.count hstep hn with ⟨hsame, -⟩ | ⟨⟨h13, hsub, hcnt, b, hemitted⟩, -⟩
  · exact absurd hmore (by rw [hsame]; exact lt_irrefl _)
  have hm : shiftIn14 s.remote.acc b = m := by
    by_contra hne
    simp [hemitted, hne] at hmore
  have hleading := hremote.leading (remote_cnt_ne_zero (by omega))
  have hbits := hremote.bits
  rw [h13] at hleading hbits
  refine ⟨h13, hsub, hcnt, hm ▸ getLsbD_thirteen_shiftIn14 b hleading hbits, ?_, b, hm.symm⟩
  rw [hemitted, hm, List.count_append, List.count_singleton_self]

end Sys2Proof.Machine
end

section
/-! PROOFS. Pending sources, the dispatch step (R259, R264, R266), and that every step answers (R250, R276). -/

namespace Sys2Proof.Machine

/-! ## Priority (R264) -/

/-- Settles O48: `highestPending` asks the sources in R264's order, a capture unit for its enable and its flag (R259). -/
theorem priorityOfPendingSources : Obligations.PriorityOfPendingSources := by
  intro s
  exact if_congr Bool.and_eq_true_iff rfl (if_congr Bool.and_eq_true_iff rfl rfl)

/-! ## The dispatch step of the latency variant (R266) -/

/-- With nothing pending a dispatch step changes nothing of the block (log 7). -/
theorem dispatchStep_of_none {s : State} (hfree : s.cfg.irqLatencyFree = true) (hp : s.highestPending = none) :
    dispatchStep s = .next { s with result := none } := by
  simp [dispatchStep, hfree, hp]

/-- With a source pending a dispatch step is that source's take, committed. -/
theorem dispatchStep_of_some {s : State} {src : Source} (hfree : s.cfg.irqLatencyFree = true)
    (hp : s.highestPending = some src) : dispatchStep s = commit s (take src { s with result := none }) := by
  simp [dispatchStep, hfree, hp]

/-- Under eager dispatch the place of a dispatch step holds none (log 7). -/
theorem dispatchStep_of_eager {s : State} (heager : s.cfg.irqLatencyFree = false) :
    dispatchStep s = .next { s with result := none } := by
  simp [dispatchStep, heager]

/-- A dispatch step runs the handler of the first pending source, with that source's pending bit cleared. -/
theorem dispatchStep_of_handler {s t : State} {src : Source} (hfree : s.cfg.irqLatencyFree = true)
    (hp : s.highestPending = some src) (ht : handler src (clearPending src { s with result := none }) = .ok t) :
    dispatchStep s = .next t := by
  rw [dispatchStep_of_some hfree hp, take_of_handler ht, commit]

/-- Settles O49: the step is the dispatch step of the state without the stimulus, whatever source is first. -/
theorem dispatchStepTakesOneSource : Obligations.DispatchStepTakesOneSource := by
  rintro s rest _ hwf hfree hin rfl
  rw [step_of_input hwf hin, runStimulus]
  have handled (src : Source) (t : State) (hp : s.highestPending = some src)
      (ht : handler src (clearPending src { s with input := rest, result := none }) = .ok t) :
      dispatchStep { s with input := rest } = .next t :=
    dispatchStep_of_handler (s := { s with input := rest }) hfree hp ht
  exact ⟨dispatchStep_of_none (s := { s with input := rest }) hfree, (handled .sCap _ · rfl), handled .rCap,
    handled .sOc, handled .rOc⟩

/-! ## Every step answers a next state (R250, R276) -/

/-- The outcome of an operation is a next state, whether or not a delay was refused in it (R19). -/
theorem commit_answers (s : State) (r : Except RefuseReason State) : ∃ t, commit s r = .next t := by
  cases r with
  | ok t => exact ⟨t, rfl⟩
  | error e => exact ⟨refuse s, rfl⟩

theorem exec_answers {i : Instr} {s : State} (hwf : s.cfg.wf = true) (hi : i.wf s.cfg = true) :
    ∃ t, exec i s = .next t := by
  by_cases hr : i = .evReset
  · subst hr
    exact ⟨State.resetWith s.cfg s.input, rfl⟩
  · obtain ⟨b, r, -, he⟩ := exec_eq_commit hwf hi hr
    rw [he]
    exact commit_answers s _

theorem dispatchStep_answers (s : State) : ∃ t, dispatchStep s = .next t := by
  cases hfree : s.cfg.irqLatencyFree with
  | false => exact ⟨_, dispatchStep_of_eager hfree⟩
  | true =>
    cases hp : s.highestPending with
    | none => exact ⟨_, dispatchStep_of_none hfree hp⟩
    | some src =>
      rw [dispatchStep_of_some hfree hp]
      exact commit_answers s _

theorem runStimulus_answers (x : Stimulus) {s : State} (hwf : s.cfg.wf = true) : ∃ t, runStimulus x s = .next t := by
  cases x with
  | dispatchSlot => exact dispatchStep_answers s
  | word w =>
    cases hd : decode s.cfg w with
    | error e => exact ⟨refuse s, by rw [runStimulus, hd]⟩
    | ok i =>
      rw [runStimulus_of_decode hd]
      exact exec_answers hwf (decode_eq_ok_iff.mp hd).2

/-- Settles O5: with no stimulus the state stays as it is, and every stimulus answers a next state. -/
theorem everyStepAnswersANextState : Obligations.EveryStepAnswersANextState := by
  intro s hwf
  cases hin : s.input with
  | nil => exact ⟨s, by simp [step, hwf, fetch, hin]⟩
  | cons x rest =>
    rw [step_of_input hwf hin]
    exact runStimulus_answers x (s := { s with input := rest }) hwf

end Sys2Proof.Machine
end

section
/-! PROOFS. Reset (R290 to R292), and that the reset state meets the invariants (R47, R54). -/

namespace Sys2Proof.Machine

/-- Settles O1: the configuration and the stimuli to come enter no other field of `State.resetWith`, so each register's
value can be read off the reset value of its unit. -/
theorem resetLeavesEveryRegisterAtItsValue : Obligations.ResetLeavesEveryRegisterAtItsValue := by
  refine ⟨rfl, fun c x => ?_⟩
  and_intros <;> rfl

/-- Settles O2: the word is the encoding of `EV.RESET`, which every configuration admits and which calls no dispatch. -/
theorem evResetAnswersTheResetState : Obligations.EvResetAnswersTheResetState :=
  fun _ => ⟨decode_eq_ok_iff.mpr ⟨rfl, rfl⟩, rfl⟩

/-- Both capture units are disabled and neither channel has matched, so no source is pending (R259). -/
@[simp] theorem highestPending_resetWith (c : Config) (i : List Stimulus) :
    (State.resetWith c i).highestPending = none := rfl

/-- No frame is begun, so there is no next edge to be armed for (R216). -/
theorem remoteLineTracked_resetWith (c : Config) (i : List Stimulus) : (State.resetWith c i).RemoteLineTracked :=
  fun _ hframe => absurd rfl hframe

/-- The sensor is in Idle, so a shared capture channel has no two users (R35, R302). -/
theorem captureExclusive_resetWith (c : Config) (i : List Stimulus) : (State.resetWith c i).CaptureExclusive :=
  fun _ _ => rfl

/-- Settles O3: with both decoders at rest, no frame begun and nothing pending, each part of the invariant holds. -/
theorem resetMeetsTheInvariants : Obligations.ResetMeetsTheInvariants :=
  fun c i => inv_iff.mpr ⟨sensorOk_resetWith c i, remoteOk_resetWith c i, remoteLineTracked_resetWith c i,
    captureExclusive_resetWith c i, .inr (highestPending_resetWith c i)⟩

end Sys2Proof.Machine
end
